-- ==== Sys2Proof/Word.lean ====
section
/-! DEFINITION. The word types of the core (R10): 8-bit data, 16-bit addresses and pairs. -/

namespace Sys2Proof

/-- An 8-bit value: a register, a memory byte, an opcode (R10). -/
abbrev Byte := BitVec 8

/-- A 16-bit value: an address, SP, PC, a register pair (R10). -/
abbrev Word := BitVec 16

end Sys2Proof
end

