-- ==== Sys2Proof/Config.lean ====
section
/-! DEFINITION. The named parameters of R11 (92_eei_decisions.md D7, D9, D10, D13, D14) and their defaults.

The spec's model 'takes as arguments' these parameters and a proof 'that claims to hold for every value must
quantify over it'. `Config` holds the four that a step reads; the state carries one `Config` that no step writes,
so a statement about every state is a statement about every parameter value (notes/assumptions/2.md, DESIGN CHOICE).
`BOOT_PROFILE` is the argument of the host's reset (R438, R500). `BUS` is any value of `Bus`, a description in plain
data of the bus's two functions (notes/assumptions/3.md); its state is the storage in `State.mem`. -/

namespace Sys2Proof

/-! ### `BUS` (R11, R70, D13) -/

/-- How a bus's description combines two numbers. -/
inductive BusOp where
  | add
  /-- Subtraction, 0 where the second number is the larger. -/
  | sub
  | mul
  /-- Division rounding down; by 0 it is 0. -/
  | div
  /-- The remainder; by 0 it is the first number. -/
  | mod
  | and
  | or
  | xor
  /-- 1 if the numbers are equal, else 0. -/
  | eq
  /-- 1 if the first number is smaller, else 0. -/
  | lt
deriving DecidableEq, Repr

/-- A number that depends on an access and on the storage as the access finds it. -/
inductive BusTerm where
  | lit (n : Nat)
  /-- The address of the access. -/
  | address
  /-- The byte a write carries; 0 in a read. -/
  | value
  /-- 1 in a write that the core's timer makes, else 0 (R76: 'The bus must store the timer's own writes ... as
  written', which a bus that treats a program's writes otherwise has to tell apart). -/
  | byTimer
  /-- The byte of the storage under a key: the addresses are the keys below 65,536, and a bus may keep more (banks,
  latches) under others. -/
  | cell (key : BusTerm)
  | op (o : BusOp) (x y : BusTerm)
  /-- `x` where the condition is not 0, else `y`. -/
  | ifElse (condition x y : BusTerm)
  /-- A number that nothing fixes: the free function `k` of the storage and an argument (I4, I6: 'any value'). -/
  | free (k : Nat) (argument : BusTerm)
deriving DecidableEq, Repr

/-- What an access does to the storage. Every term is evaluated on the storage as the access found it; the stores are
made in order. -/
inductive BusAction where
  | nothing
  | store (key byte : BusTerm)
  | both (first second : BusAction)
  | ifElse (condition : BusTerm) (x y : BusAction)
deriving DecidableEq, Repr

/-- A memory interface meeting R70: what `read8` returns, what it does to the bus's state, and what `write8` does to it.
All three are total, and an access may have any effect on the storage (R76). -/
structure Bus where
  reply : BusTerm
  onRead : BusAction
  onWrite : BusAction
deriving DecidableEq, Repr

/-- The reference bus (R84), the default of `BUS`: a read returns the byte stored at the address, a write stores the
byte there, 'no address has a side effect'. -/
def Bus.reference : Bus := ⟨.cell .address, .nothing, .store .address .value⟩

/-- The free functions that a bus's description may call: `k`, the bus's storage, the argument. It has no body, so
what is proved of a bus that calls it holds whatever the function is (notes/assumptions/3.md). -/
opaque Config.freeBus : Nat → List (Nat × Byte) → Nat → Nat

/-! ### The other parameters -/

/-- `ADD_SP_FLAGS` (R11, R201, D10): which bits of the carry word give H and C of ADD SP,r8 and LD HL,SP+r8. -/
inductive AddSpFlags where
  /-- H from bit 12 and C from bit 16 of the 16-bit sum (the source's statement, the default). -/
  | doc16
  /-- H from bit 4 and C from bit 8 of the low-byte sum (the real processor). -/
  | hw8
deriving DecidableEq, Repr

/-- `ILLEGAL_OPCODE_POLICY` (R11, R361, D9): what happens after an illegal opcode has been recorded. -/
inductive IllegalPolicy where
  /-- The core goes on stepping (the default). -/
  | goOn
  /-- Every later step is a stuck step until reset. -/
  | lock
deriving DecidableEq, Repr

/-- `BOOT_PROFILE` (R11, R500, D14): the argument of the host's reset. -/
inductive BootProfile where
  /-- The all-zero state of R501 (the default). -/
  | powerOn
  /-- The state the console's boot ROM leaves, R502. -/
  | dmgPostBoot
deriving DecidableEq, Repr

/-- The parameters that a step reads (R11). -/
structure Config where
  /-- `ADD_SP_FLAGS` -/
  addSpFlags : AddSpFlags
  /-- `HALT_BUG` -/
  haltBug : Bool
  /-- `ILLEGAL_OPCODE_POLICY` -/
  illegalPolicy : IllegalPolicy
  /-- `BUS` -/
  bus : Bus
deriving DecidableEq, Repr

/-- The defaults of the table of R11: `doc16`, `true`, `continue`, flat 64 KiB storage. -/
def Config.default : Config := ⟨.doc16, true, .goOn, .reference⟩

/-- The default of `BOOT_PROFILE` in the table of R11. -/
def BootProfile.default : BootProfile := .powerOn

end Sys2Proof
end

