-- ==== Sys2Proof/Machine/State.lean ====
section
/-! DEFINITION. Everything the spec gives the machine (10_state.md), as plain data, and the state after reset.

The last four fields are the MODEL's own: what R16's `cycles`, R100's `addr` and R76's access sequence are held in
between the parts of a step, and the parameters of R11. No register, flag or byte of memory depends on the first
three of them except as the rules say (`opAddr` is read by R360 alone). -/

namespace Sys2Proof.Machine

/-- The four flag bits of F (R34, R36): Z, N, H, C. F has no other storage: bits 3..0 'are always 0' (R34). -/
structure Flags where
  /-- Z, bit 7 of F: 'Zero (result == 0)'. -/
  z : Bool
  /-- N, bit 6 of F: the last operation was a subtraction. -/
  n : Bool
  /-- H, bit 5 of F: half-carry. -/
  h : Bool
  /-- C, bit 4 of F: carry or borrow. -/
  c : Bool
deriving DecidableEq, Repr

/-- The five interrupt sources of R410, in the order of their bits in IF and IE (R50, R51). -/
inductive Irq where
  | vblank
  | lcdStat
  | timer
  | serial
  | joypad
deriving DecidableEq, Repr

/-- `IllegalOpcode(addr, op)` of R47: the first illegal opcode executed, with the address it was fetched from. -/
structure IllegalOpcode where
  addr : Word
  op : Byte
deriving DecidableEq, Repr

/-- One single-byte bus access of the core (R70, R76). -/
inductive BusAccess where
  /-- `MemRead(addr, 1)` and the byte the bus returned. -/
  | read (addr : Word) (value : Byte)
  /-- `MemWrite(addr, 1, value)`. -/
  | write (addr : Word) (value : Byte)
deriving DecidableEq, Repr

/-- The outcome of a step (R401). -/
inductive StepOutcome where
  /-- `Executed(n)`: an instruction ran, with n M-cycles. -/
  | executed (n : Nat)
  /-- `Dispatch(k, n)`: interrupt k was dispatched; n is 5 (R417). -/
  | dispatch (k : Irq) (n : Nat)
  /-- `Idle(n)`: the core is halted and nothing is pending; n is 1 (R402). -/
  | idle (n : Nat)
  /-- `Stuck`: the core is stopped or locked. -/
  | stuck
deriving DecidableEq, Repr

/-- The state of a bus (R70): its storage, (key, byte) pairs in one canonical form, see `Memory.wf`. The keys of the
reference bus (R84) are the 65,536 addresses; a key that is not listed holds 0x00 (R503; notes/assumptions/4.md). -/
abbrev Memory := List Host.Cell

/-- The state of the core and of the bus it consumes. -/
structure State where
  /-- A, the accumulator (R30). -/
  a : Byte
  /-- F, the flags (R34). -/
  f : Flags
  /-- B (R30). -/
  b : Byte
  /-- C (R30). -/
  c : Byte
  /-- D (R30). -/
  d : Byte
  /-- E (R30). -/
  e : Byte
  /-- H (R30). -/
  h : Byte
  /-- L (R30). -/
  l : Byte
  /-- The stack pointer (R32). -/
  sp : Word
  /-- The program counter (R33). -/
  pc : Word
  /-- IME, the interrupt master enable (R40). -/
  ime : Bool
  /-- `ei_pending` (R41): IME becomes 1 at the end of the next instruction. -/
  eiPending : Bool
  /-- `halted` (R42). -/
  halted : Bool
  /-- `stopped` (R43). -/
  stopped : Bool
  /-- `halt_bug_armed` (R44). -/
  haltBugArmed : Bool
  /-- `div_acc` (R45): clocks towards the next DIV increment. -/
  divAcc : Nat
  /-- `tima_acc` (R46): clocks towards the next TIMA increment. -/
  timaAcc : Nat
  /-- `fault` (R47): the sticky illegal-opcode marker. -/
  fault : Option IllegalOpcode
  /-- The state of the bus (R70, R401); on the reference bus (R84) the 65,536 bytes of R71, with DIV, TIMA, TMA, TAC, IF
  and IE among them (R48). -/
  mem : Memory
  /-- The parameters of R11; no step writes them (R505). -/
  config : Config
  /-- The model's own: the bus accesses of the step so far, oldest first (R76, R79); each step begins with none. -/
  trace : List BusAccess
  /-- The model's own: R100's `addr`, the address the current opcode was fetched from (read by R360). -/
  opAddr : Word
  /-- The model's own: the outcome the last step returned (R401); none before the first step. -/
  outcome : Option StepOutcome
deriving DecidableEq, Repr

/-- Why the machine could stop with a fault. The spec has none: 'There are no synchronous exceptions, faults or
traps' (R420), and the illegal-opcode marker is a field of `State` (R47). -/
inductive Fault where
  /-- Raised by the step alone, if the decoder rejected the bytes the fetch gave it. SAFE, and unreachable: the fetch
  reads as many bytes as the first one asks for and every opcode slot is bound (R102, R117). -/
  | undecodable (bytes : List Byte)
deriving DecidableEq, Repr

/-- Why an instruction could have no meaning. -/
inductive Refusal where
  /-- Raised by `exec`'s arm of an instruction that has no meaning yet (SAFE); no arm does. -/
  | notModelled (mnemonic : String)
deriving DecidableEq, Repr

/-- The core state of R501 (`powerOn`) or R502 (`dmgPostBoot`) over a given bus and parameters: 'Reset does not
write the bus' (R503) and 'does not change ... the parameters' (R505). The model's own fields start empty. -/
def State.afterReset (p : BootProfile) (mem : Memory) (config : Config) : State :=
  match p with
  | .powerOn =>
    { a := 0x00, f := ⟨false, false, false, false⟩, b := 0x00, c := 0x00, d := 0x00, e := 0x00, h := 0x00, l := 0x00
      sp := 0x0000, pc := 0x0000
      ime := false, eiPending := false, halted := false, stopped := false, haltBugArmed := false
      divAcc := 0, timaAcc := 0, fault := none
      mem := mem, config := config, trace := [], opAddr := 0x0000, outcome := none }
  | .dmgPostBoot =>
    { a := 0x01, f := ⟨true, false, true, true⟩, b := 0x00, c := 0x13, d := 0x00, e := 0xD8, h := 0x01, l := 0x4D
      sp := 0xFFFE, pc := 0x0100
      ime := false, eiPending := false, halted := false, stopped := false, haltBugArmed := false
      divAcc := 0, timaAcc := 0, fault := none
      mem := mem, config := config, trace := [], opAddr := 0x0000, outcome := none }

/-- The machine right after reset: the default profile `power_on` (R501), the default parameters (R11), nothing
listed in memory (R503: 'zero unless a vector says otherwise'). -/
def State.reset : State := State.afterReset BootProfile.default [] Config.default

end Sys2Proof.Machine
end

