-- ==== Sys2Proof/Machine/Memory.lean ====
section
/-! DEFINITION. The storage of a bus as a canonical list of (key, byte) pairs. The keys of the reference bus (R84) are the
addresses. -/

namespace Sys2Proof.Machine

/-- How many byte addresses the one address space has (R71): 0x0000 to 0xFFFF. -/
def addressSpace : Nat := 65536

/-- What a key that the storage does not list holds: 0x00, the initial contents of the reference bus (R503:
'zero unless a vector says otherwise'; notes/assumptions/4.md). -/
def unlisted : Byte := 0x00

/-- The byte the storage holds under a key: 'the byte last written' there (R84). -/
def Memory.read : Memory → Nat → Byte
  | [], _ => unlisted
  | (k, v) :: m, a => if k = a then v else Memory.read m a

/-- The storage without an entry for a key. -/
def Memory.erase (m : Memory) (a : Nat) : Memory := m.filter (fun x => x.1 != a)

/-- The storage with an entry for a key it has none for, kept in the order of the keys. -/
def Memory.insert (a : Nat) (v : Byte) : Memory → Memory
  | [] => [(a, v)]
  | (k, w) :: m => if a < k then (a, v) :: (k, w) :: m else (k, w) :: Memory.insert a v m

/-- The storage with a byte stored under a key. Storing what an unlisted key holds removes the entry, so that equal
storage is equal data. -/
def Memory.write (m : Memory) (a : Nat) (v : Byte) : Memory :=
  if v = unlisted then m.erase a else Memory.insert a v (m.erase a)

/-- The canonical form: keys strictly rising, no entry equal to `unlisted`. -/
def Memory.wf : Memory → Bool
  | [] => true
  | (k, v) :: m => v != unlisted && m.all (fun x => decide (k < x.1)) && Memory.wf m

/-- No key outside the address space is listed: the 65,536 bytes of the reference bus (R84). -/
def Memory.inAddressSpace (m : Memory) : Bool := m.all (fun x => decide (x.1 < addressSpace))

end Sys2Proof.Machine
end

