-- ==== Sys2Proof/Machine/Bus.lean ====
section
/-! DEFINITION. The two functions of the bus that a description gives (R70, D13): `read8(addr)` and `write8(addr, val)`, on
the bus's storage. -/

namespace Sys2Proof
open Machine

/-- One access as the bus sees it. -/
structure BusCall where
  address : Nat
  value : Nat
  byTimer : Bool
deriving DecidableEq, Repr

/-- A truth value as a number. -/
def numberOf (b : Bool) : Nat := if b then 1 else 0

/-- Two numbers combined. -/
def BusOp.eval : BusOp → Nat → Nat → Nat
  | .add, x, y => x + y
  | .sub, x, y => x - y
  | .mul, x, y => x * y
  | .div, x, y => x / y
  | .mod, x, y => x % y
  | .and, x, y => x &&& y
  | .or, x, y => x ||| y
  | .xor, x, y => x ^^^ y
  | .eq, x, y => numberOf (x == y)
  | .lt, x, y => numberOf (decide (x < y))

/-- A term's number for an access that finds the storage `m`. -/
def BusTerm.eval (m : Memory) (call : BusCall) : BusTerm → Nat
  | .lit n => n
  | .address => call.address
  | .value => call.value
  | .byTimer => numberOf call.byTimer
  | .cell key => (m.read (BusTerm.eval m call key)).toNat
  | .op o x y => o.eval (BusTerm.eval m call x) (BusTerm.eval m call y)
  | .ifElse condition x y =>
    if BusTerm.eval m call condition = 0 then BusTerm.eval m call y else BusTerm.eval m call x
  | .free k argument => Config.freeBus k m (BusTerm.eval m call argument)

/-- What an access that finds the storage `m` does to the storage `n`. -/
def BusAction.run (m : Memory) (call : BusCall) : BusAction → Memory → Memory
  | .nothing, n => n
  | .store key byte, n => n.write (key.eval m call) (BitVec.ofNat 8 (byte.eval m call))
  | .both first second, n => BusAction.run m call second (BusAction.run m call first n)
  | .ifElse condition x y, n =>
    if condition.eval m call = 0 then BusAction.run m call y n else BusAction.run m call x n

/-- A read as the bus sees it. -/
def readCall (a : Word) : BusCall := ⟨a.toNat, 0, false⟩

/-- A write as the bus sees it. -/
def writeCall (byTimer : Bool) (a : Word) (v : Byte) : BusCall := ⟨a.toNat, v.toNat, byTimer⟩

/-- The byte `read8(a)` returns (R70). -/
def Bus.read8 (bus : Bus) (m : Memory) (a : Word) : Byte := BitVec.ofNat 8 (bus.reply.eval m (readCall a))

/-- The bus's state after `read8(a)`: a read may have any effect the bus defines (R76). -/
def Bus.afterRead8 (bus : Bus) (m : Memory) (a : Word) : Memory := bus.onRead.run m (readCall a) m

/-- The bus's state after `write8(a, v)` (R70, R76). -/
def Bus.afterWrite8 (bus : Bus) (m : Memory) (byTimer : Bool) (a : Word) (v : Byte) : Memory :=
  bus.onWrite.run m (writeCall byTimer a v) m

end Sys2Proof
end

