-- ==== Sys2Proof/Machine/Bits.lean ====
section
/-! DEFINITION. Bit-field, byte-order and sign-extension helpers of the notation R12. -/

namespace Sys2Proof.Machine

/-- `(hi ++ lo)`: the concatenation `hi * 256 + lo` of two bytes (R12). -/
def concat16 (hi lo : Byte) : Word := hi ++ lo

/-- `v[15:8]` (R12). -/
def highByte (v : Word) : Byte := v.extractLsb' 8 8

/-- `v[7:0]` (R12). -/
def lowByte (v : Word) : Byte := v.extractLsb' 0 8

/-- `sext_16(v)`: the 8-bit value sign-extended to 16 bits (R12). -/
def sext16 (v : Byte) : Word := v.signExtend 16

/-- `zext_16(v)`: the 8-bit value zero-extended to 16 bits (R12). -/
def zext16 (v : Byte) : Word := v.setWidth 16

/-- The unsigned field of `n` bits of a byte whose lowest bit is `lo`: `v[lo+n-1:lo]` (R12). -/
def field (v : Byte) (lo n : Nat) : Nat := (v.extractLsb' lo n).toNat

/-- The byte with only bit `b` set: `1 << b` (R12). -/
def bitMask (b : Nat) : Byte := (1 : Byte) <<< b

end Sys2Proof.Machine
end

