-- ==== Sys2Proof/Syntax.lean ====
section
/-! DEFINITION. The syntax of the instruction set: the operand codes of R104 to R110, and one constructor of `Instr`
for each of the 512 rows of spec/opcode_table.json (R112, R113): first the rows that carry immediate bytes, then the
others, each in the order of the opcode maps (Lean's compiler asks for the constructors with fields first).

A constructor carries the immediate bytes of its format (R103, R111): `d8`, `a8`, `r8` as the byte that stands in
memory, `d16`, `a16` as the 16-bit value with the low byte first in memory. -/

namespace Sys2Proof

/-- The 8-bit registers that a register code names (R104): every code but 110. -/
inductive Reg8 where
  | b | c | d | e | h | l | a
deriving DecidableEq, Repr

/-- The operand an 8-bit register field selects (R104): a register, or for code 110 the byte at `x[HL]`. -/
inductive Opnd8 where
  | reg (r : Reg8)
  | atHl
deriving DecidableEq, Repr

/-- Pair code, group 1 (R105): LD rr,d16, INC rr, DEC rr, ADD HL,rr. -/
inductive Pair1 where
  | bc | de | hl | sp
deriving DecidableEq, Repr

/-- Pair code, group 2 (R105): PUSH and POP. -/
inductive Pair2 where
  | bc | de | hl | af
deriving DecidableEq, Repr

/-- Condition code (R106). -/
inductive Cond where
  | nz | z | nc | c
deriving DecidableEq, Repr

/-- ALU operation code (R107), in the order of the codes 000 to 111. -/
inductive AluOp where
  | add | adc | sub | sbc | and | xor | or | cp
deriving DecidableEq, Repr

/-- CB rotate and shift operation code (R110), in the order of the codes 000 to 111. -/
inductive RotOp where
  | rlc | rrc | rl | rr | sla | sra | swap | srl
deriving DecidableEq, Repr

/-- The bit number of BIT, RES and SET, the field `bbb` of R109. -/
inductive BitNo where
  | b0 | b1 | b2 | b3 | b4 | b5 | b6 | b7
deriving DecidableEq, Repr

/-- The restart vector field `ttt` of RST (R108), named by its target in hexadecimal. -/
inductive RstVec where
  | v00 | v08 | v10 | v18 | v20 | v28 | v30 | v38
deriving DecidableEq, Repr

/-- The eleven illegal slots of the base table (R115), named by their opcode. -/
inductive IllegalSlot where
  | d3 | db | dd | e3 | e4 | eb | ec | ed | f4 | fc | fd
deriving DecidableEq, Repr

/-- The instructions: one constructor per row of spec/opcode_table.json.
`prefixCb` is the base table's own entry for 0xCB (R101, R345), which holds the CB opcode it fetches; the decoder
goes on from it to the entry of the extended table, so it is never the final result of decoding (`WellFormed`). -/
inductive Instr where
  /-- `LD BC,d16`, 0x01 (R277) -/
  | ldBcD16 (d16 : Word)
  /-- `LD B,d8`, 0x06 (R261) -/
  | ldBD8 (d8 : Byte)
  /-- `LD (a16),SP`, 0x08 (R278) -/
  | ldAtA16Sp (a16 : Word)
  /-- `LD C,d8`, 0x0E (R261) -/
  | ldCD8 (d8 : Byte)
  /-- `STOP`, 0x10 (R342) -/
  | stop (d8 : Byte)
  /-- `LD DE,d16`, 0x11 (R277) -/
  | ldDeD16 (d16 : Word)
  /-- `LD D,d8`, 0x16 (R261) -/
  | ldDD8 (d8 : Byte)
  /-- `JR r8`, 0x18 (R309) -/
  | jrR8 (r8 : Byte)
  /-- `LD E,d8`, 0x1E (R261) -/
  | ldED8 (d8 : Byte)
  /-- `JR NZ,r8`, 0x20 (R310) -/
  | jrNzR8 (r8 : Byte)
  /-- `LD HL,d16`, 0x21 (R277) -/
  | ldHlD16 (d16 : Word)
  /-- `LD H,d8`, 0x26 (R261) -/
  | ldHD8 (d8 : Byte)
  /-- `JR Z,r8`, 0x28 (R310) -/
  | jrZR8 (r8 : Byte)
  /-- `LD L,d8`, 0x2E (R261) -/
  | ldLD8 (d8 : Byte)
  /-- `JR NC,r8`, 0x30 (R310) -/
  | jrNcR8 (r8 : Byte)
  /-- `LD SP,d16`, 0x31 (R277) -/
  | ldSpD16 (d16 : Word)
  /-- `LD (HL),d8`, 0x36 (R264) -/
  | ldAtHlD8 (d8 : Byte)
  /-- `JR C,r8`, 0x38 (R310) -/
  | jrCR8 (r8 : Byte)
  /-- `LD A,d8`, 0x3E (R261) -/
  | ldAD8 (d8 : Byte)
  /-- `JP NZ,a16`, 0xC2 (R307) -/
  | jpNzA16 (a16 : Word)
  /-- `JP a16`, 0xC3 (R306) -/
  | jpA16 (a16 : Word)
  /-- `CALL NZ,a16`, 0xC4 (R312) -/
  | callNzA16 (a16 : Word)
  /-- `ADD A,d8`, 0xC6 (R152) -/
  | addAD8 (d8 : Byte)
  /-- `JP Z,a16`, 0xCA (R307) -/
  | jpZA16 (a16 : Word)
  /-- `PREFIX CB`, 0xCB (R345) -/
  | prefixCb (op2 : Byte)
  /-- `CALL Z,a16`, 0xCC (R312) -/
  | callZA16 (a16 : Word)
  /-- `CALL a16`, 0xCD (R311) -/
  | callA16 (a16 : Word)
  /-- `ADC A,d8`, 0xCE (R155) -/
  | adcAD8 (d8 : Byte)
  /-- `JP NC,a16`, 0xD2 (R307) -/
  | jpNcA16 (a16 : Word)
  /-- `CALL NC,a16`, 0xD4 (R312) -/
  | callNcA16 (a16 : Word)
  /-- `SUB d8`, 0xD6 (R158) -/
  | subD8 (d8 : Byte)
  /-- `JP C,a16`, 0xDA (R307) -/
  | jpCA16 (a16 : Word)
  /-- `CALL C,a16`, 0xDC (R312) -/
  | callCA16 (a16 : Word)
  /-- `SBC A,d8`, 0xDE (R161) -/
  | sbcAD8 (d8 : Byte)
  /-- `LDH (a8),A`, 0xE0 (R270) -/
  | ldhAtA8A (a8 : Byte)
  /-- `AND d8`, 0xE6 (R164) -/
  | andD8 (d8 : Byte)
  /-- `ADD SP,r8`, 0xE8 (R205) -/
  | addSpR8 (r8 : Byte)
  /-- `LD (a16),A`, 0xEA (R268) -/
  | ldAtA16A (a16 : Word)
  /-- `XOR d8`, 0xEE (R167) -/
  | xorD8 (d8 : Byte)
  /-- `LDH A,(a8)`, 0xF0 (R269) -/
  | ldhAAtA8 (a8 : Byte)
  /-- `OR d8`, 0xF6 (R170) -/
  | orD8 (d8 : Byte)
  /-- `LD HL,SP+r8`, 0xF8 (R206) -/
  | ldHlSpR8 (r8 : Byte)
  /-- `LD A,(a16)`, 0xFA (R267) -/
  | ldAAtA16 (a16 : Word)
  /-- `CP d8`, 0xFE (R173) -/
  | cpD8 (d8 : Byte)
  /-- `NOP`, 0x00 (R340) -/
  | nop
  /-- `LD (BC),A`, 0x02 (R266) -/
  | ldAtBcA
  /-- `INC BC`, 0x03 (R203) -/
  | incBc
  /-- `INC B`, 0x04 (R180) -/
  | incB
  /-- `DEC B`, 0x05 (R182) -/
  | decB
  /-- `RLCA`, 0x07 (R220) -/
  | rlca
  /-- `ADD HL,BC`, 0x09 (R202) -/
  | addHlBc
  /-- `LD A,(BC)`, 0x0A (R265) -/
  | ldAAtBc
  /-- `DEC BC`, 0x0B (R204) -/
  | decBc
  /-- `INC C`, 0x0C (R180) -/
  | incC
  /-- `DEC C`, 0x0D (R182) -/
  | decC
  /-- `RRCA`, 0x0F (R221) -/
  | rrca
  /-- `LD (DE),A`, 0x12 (R266) -/
  | ldAtDeA
  /-- `INC DE`, 0x13 (R203) -/
  | incDe
  /-- `INC D`, 0x14 (R180) -/
  | incD
  /-- `DEC D`, 0x15 (R182) -/
  | decD
  /-- `RLA`, 0x17 (R222) -/
  | rla
  /-- `ADD HL,DE`, 0x19 (R202) -/
  | addHlDe
  /-- `LD A,(DE)`, 0x1A (R265) -/
  | ldAAtDe
  /-- `DEC DE`, 0x1B (R204) -/
  | decDe
  /-- `INC E`, 0x1C (R180) -/
  | incE
  /-- `DEC E`, 0x1D (R182) -/
  | decE
  /-- `RRA`, 0x1F (R223) -/
  | rra
  /-- `LD (HL+),A`, 0x22 (R273) -/
  | ldAtHliA
  /-- `INC HL`, 0x23 (R203) -/
  | incHl
  /-- `INC H`, 0x24 (R180) -/
  | incH
  /-- `DEC H`, 0x25 (R182) -/
  | decH
  /-- `DAA`, 0x27 (R185) -/
  | daa
  /-- `ADD HL,HL`, 0x29 (R202) -/
  | addHlHl
  /-- `LD A,(HL+)`, 0x2A (R274) -/
  | ldAAtHli
  /-- `DEC HL`, 0x2B (R204) -/
  | decHl
  /-- `INC L`, 0x2C (R180) -/
  | incL
  /-- `DEC L`, 0x2D (R182) -/
  | decL
  /-- `CPL`, 0x2F (R186) -/
  | cpl
  /-- `LD (HL-),A`, 0x32 (R275) -/
  | ldAtHldA
  /-- `INC SP`, 0x33 (R203) -/
  | incSp
  /-- `INC (HL)`, 0x34 (R181) -/
  | incAtHl
  /-- `DEC (HL)`, 0x35 (R183) -/
  | decAtHl
  /-- `SCF`, 0x37 (R187) -/
  | scf
  /-- `ADD HL,SP`, 0x39 (R202) -/
  | addHlSp
  /-- `LD A,(HL-)`, 0x3A (R276) -/
  | ldAAtHld
  /-- `DEC SP`, 0x3B (R204) -/
  | decSp
  /-- `INC A`, 0x3C (R180) -/
  | incA
  /-- `DEC A`, 0x3D (R182) -/
  | decA
  /-- `CCF`, 0x3F (R188) -/
  | ccf
  /-- `LD B,B`, 0x40 (R260) -/
  | ldBB
  /-- `LD B,C`, 0x41 (R260) -/
  | ldBC
  /-- `LD B,D`, 0x42 (R260) -/
  | ldBD
  /-- `LD B,E`, 0x43 (R260) -/
  | ldBE
  /-- `LD B,H`, 0x44 (R260) -/
  | ldBH
  /-- `LD B,L`, 0x45 (R260) -/
  | ldBL
  /-- `LD B,(HL)`, 0x46 (R262) -/
  | ldBAtHl
  /-- `LD B,A`, 0x47 (R260) -/
  | ldBA
  /-- `LD C,B`, 0x48 (R260) -/
  | ldCB
  /-- `LD C,C`, 0x49 (R260) -/
  | ldCC
  /-- `LD C,D`, 0x4A (R260) -/
  | ldCD
  /-- `LD C,E`, 0x4B (R260) -/
  | ldCE
  /-- `LD C,H`, 0x4C (R260) -/
  | ldCH
  /-- `LD C,L`, 0x4D (R260) -/
  | ldCL
  /-- `LD C,(HL)`, 0x4E (R262) -/
  | ldCAtHl
  /-- `LD C,A`, 0x4F (R260) -/
  | ldCA
  /-- `LD D,B`, 0x50 (R260) -/
  | ldDB
  /-- `LD D,C`, 0x51 (R260) -/
  | ldDC
  /-- `LD D,D`, 0x52 (R260) -/
  | ldDD
  /-- `LD D,E`, 0x53 (R260) -/
  | ldDE
  /-- `LD D,H`, 0x54 (R260) -/
  | ldDH
  /-- `LD D,L`, 0x55 (R260) -/
  | ldDL
  /-- `LD D,(HL)`, 0x56 (R262) -/
  | ldDAtHl
  /-- `LD D,A`, 0x57 (R260) -/
  | ldDA
  /-- `LD E,B`, 0x58 (R260) -/
  | ldEB
  /-- `LD E,C`, 0x59 (R260) -/
  | ldEC
  /-- `LD E,D`, 0x5A (R260) -/
  | ldED
  /-- `LD E,E`, 0x5B (R260) -/
  | ldEE
  /-- `LD E,H`, 0x5C (R260) -/
  | ldEH
  /-- `LD E,L`, 0x5D (R260) -/
  | ldEL
  /-- `LD E,(HL)`, 0x5E (R262) -/
  | ldEAtHl
  /-- `LD E,A`, 0x5F (R260) -/
  | ldEA
  /-- `LD H,B`, 0x60 (R260) -/
  | ldHB
  /-- `LD H,C`, 0x61 (R260) -/
  | ldHC
  /-- `LD H,D`, 0x62 (R260) -/
  | ldHD
  /-- `LD H,E`, 0x63 (R260) -/
  | ldHE
  /-- `LD H,H`, 0x64 (R260) -/
  | ldHH
  /-- `LD H,L`, 0x65 (R260) -/
  | ldHL
  /-- `LD H,(HL)`, 0x66 (R262) -/
  | ldHAtHl
  /-- `LD H,A`, 0x67 (R260) -/
  | ldHA
  /-- `LD L,B`, 0x68 (R260) -/
  | ldLB
  /-- `LD L,C`, 0x69 (R260) -/
  | ldLC
  /-- `LD L,D`, 0x6A (R260) -/
  | ldLD
  /-- `LD L,E`, 0x6B (R260) -/
  | ldLE
  /-- `LD L,H`, 0x6C (R260) -/
  | ldLH
  /-- `LD L,L`, 0x6D (R260) -/
  | ldLL
  /-- `LD L,(HL)`, 0x6E (R262) -/
  | ldLAtHl
  /-- `LD L,A`, 0x6F (R260) -/
  | ldLA
  /-- `LD (HL),B`, 0x70 (R263) -/
  | ldAtHlB
  /-- `LD (HL),C`, 0x71 (R263) -/
  | ldAtHlC
  /-- `LD (HL),D`, 0x72 (R263) -/
  | ldAtHlD
  /-- `LD (HL),E`, 0x73 (R263) -/
  | ldAtHlE
  /-- `LD (HL),H`, 0x74 (R263) -/
  | ldAtHlH
  /-- `LD (HL),L`, 0x75 (R263) -/
  | ldAtHlL
  /-- `HALT`, 0x76 (R341) -/
  | halt
  /-- `LD (HL),A`, 0x77 (R263) -/
  | ldAtHlA
  /-- `LD A,B`, 0x78 (R260) -/
  | ldAB
  /-- `LD A,C`, 0x79 (R260) -/
  | ldAC
  /-- `LD A,D`, 0x7A (R260) -/
  | ldAD
  /-- `LD A,E`, 0x7B (R260) -/
  | ldAE
  /-- `LD A,H`, 0x7C (R260) -/
  | ldAH
  /-- `LD A,L`, 0x7D (R260) -/
  | ldAL
  /-- `LD A,(HL)`, 0x7E (R262) -/
  | ldAAtHl
  /-- `LD A,A`, 0x7F (R260) -/
  | ldAA
  /-- `ADD A,B`, 0x80 (R150) -/
  | addAB
  /-- `ADD A,C`, 0x81 (R150) -/
  | addAC
  /-- `ADD A,D`, 0x82 (R150) -/
  | addAD
  /-- `ADD A,E`, 0x83 (R150) -/
  | addAE
  /-- `ADD A,H`, 0x84 (R150) -/
  | addAH
  /-- `ADD A,L`, 0x85 (R150) -/
  | addAL
  /-- `ADD A,(HL)`, 0x86 (R151) -/
  | addAAtHl
  /-- `ADD A,A`, 0x87 (R150) -/
  | addAA
  /-- `ADC A,B`, 0x88 (R153) -/
  | adcAB
  /-- `ADC A,C`, 0x89 (R153) -/
  | adcAC
  /-- `ADC A,D`, 0x8A (R153) -/
  | adcAD
  /-- `ADC A,E`, 0x8B (R153) -/
  | adcAE
  /-- `ADC A,H`, 0x8C (R153) -/
  | adcAH
  /-- `ADC A,L`, 0x8D (R153) -/
  | adcAL
  /-- `ADC A,(HL)`, 0x8E (R154) -/
  | adcAAtHl
  /-- `ADC A,A`, 0x8F (R153) -/
  | adcAA
  /-- `SUB B`, 0x90 (R156) -/
  | subB
  /-- `SUB C`, 0x91 (R156) -/
  | subC
  /-- `SUB D`, 0x92 (R156) -/
  | subD
  /-- `SUB E`, 0x93 (R156) -/
  | subE
  /-- `SUB H`, 0x94 (R156) -/
  | subH
  /-- `SUB L`, 0x95 (R156) -/
  | subL
  /-- `SUB (HL)`, 0x96 (R157) -/
  | subAtHl
  /-- `SUB A`, 0x97 (R156) -/
  | subA
  /-- `SBC A,B`, 0x98 (R159) -/
  | sbcAB
  /-- `SBC A,C`, 0x99 (R159) -/
  | sbcAC
  /-- `SBC A,D`, 0x9A (R159) -/
  | sbcAD
  /-- `SBC A,E`, 0x9B (R159) -/
  | sbcAE
  /-- `SBC A,H`, 0x9C (R159) -/
  | sbcAH
  /-- `SBC A,L`, 0x9D (R159) -/
  | sbcAL
  /-- `SBC A,(HL)`, 0x9E (R160) -/
  | sbcAAtHl
  /-- `SBC A,A`, 0x9F (R159) -/
  | sbcAA
  /-- `AND B`, 0xA0 (R162) -/
  | andB
  /-- `AND C`, 0xA1 (R162) -/
  | andC
  /-- `AND D`, 0xA2 (R162) -/
  | andD
  /-- `AND E`, 0xA3 (R162) -/
  | andE
  /-- `AND H`, 0xA4 (R162) -/
  | andH
  /-- `AND L`, 0xA5 (R162) -/
  | andL
  /-- `AND (HL)`, 0xA6 (R163) -/
  | andAtHl
  /-- `AND A`, 0xA7 (R162) -/
  | andA
  /-- `XOR B`, 0xA8 (R165) -/
  | xorB
  /-- `XOR C`, 0xA9 (R165) -/
  | xorC
  /-- `XOR D`, 0xAA (R165) -/
  | xorD
  /-- `XOR E`, 0xAB (R165) -/
  | xorE
  /-- `XOR H`, 0xAC (R165) -/
  | xorH
  /-- `XOR L`, 0xAD (R165) -/
  | xorL
  /-- `XOR (HL)`, 0xAE (R166) -/
  | xorAtHl
  /-- `XOR A`, 0xAF (R165) -/
  | xorA
  /-- `OR B`, 0xB0 (R168) -/
  | orB
  /-- `OR C`, 0xB1 (R168) -/
  | orC
  /-- `OR D`, 0xB2 (R168) -/
  | orD
  /-- `OR E`, 0xB3 (R168) -/
  | orE
  /-- `OR H`, 0xB4 (R168) -/
  | orH
  /-- `OR L`, 0xB5 (R168) -/
  | orL
  /-- `OR (HL)`, 0xB6 (R169) -/
  | orAtHl
  /-- `OR A`, 0xB7 (R168) -/
  | orA
  /-- `CP B`, 0xB8 (R171) -/
  | cpB
  /-- `CP C`, 0xB9 (R171) -/
  | cpC
  /-- `CP D`, 0xBA (R171) -/
  | cpD
  /-- `CP E`, 0xBB (R171) -/
  | cpE
  /-- `CP H`, 0xBC (R171) -/
  | cpH
  /-- `CP L`, 0xBD (R171) -/
  | cpL
  /-- `CP (HL)`, 0xBE (R172) -/
  | cpAtHl
  /-- `CP A`, 0xBF (R171) -/
  | cpA
  /-- `RET NZ`, 0xC0 (R314) -/
  | retNz
  /-- `POP BC`, 0xC1 (R304) -/
  | popBc
  /-- `PUSH BC`, 0xC5 (R303) -/
  | pushBc
  /-- `RST 00H`, 0xC7 (R316) -/
  | rst00
  /-- `RET Z`, 0xC8 (R314) -/
  | retZ
  /-- `RET`, 0xC9 (R313) -/
  | ret
  /-- `RST 08H`, 0xCF (R316) -/
  | rst08
  /-- `RET NC`, 0xD0 (R314) -/
  | retNc
  /-- `POP DE`, 0xD1 (R304) -/
  | popDe
  /-- `ILLEGAL_D3`, 0xD3 (R360) -/
  | illegalD3
  /-- `PUSH DE`, 0xD5 (R303) -/
  | pushDe
  /-- `RST 10H`, 0xD7 (R316) -/
  | rst10
  /-- `RET C`, 0xD8 (R314) -/
  | retC
  /-- `RETI`, 0xD9 (R315) -/
  | reti
  /-- `ILLEGAL_DB`, 0xDB (R360) -/
  | illegalDB
  /-- `ILLEGAL_DD`, 0xDD (R360) -/
  | illegalDD
  /-- `RST 18H`, 0xDF (R316) -/
  | rst18
  /-- `POP HL`, 0xE1 (R304) -/
  | popHl
  /-- `LD (C),A`, 0xE2 (R272) -/
  | ldAtCA
  /-- `ILLEGAL_E3`, 0xE3 (R360) -/
  | illegalE3
  /-- `ILLEGAL_E4`, 0xE4 (R360) -/
  | illegalE4
  /-- `PUSH HL`, 0xE5 (R303) -/
  | pushHl
  /-- `RST 20H`, 0xE7 (R316) -/
  | rst20
  /-- `JP HL`, 0xE9 (R308) -/
  | jpHl
  /-- `ILLEGAL_EB`, 0xEB (R360) -/
  | illegalEB
  /-- `ILLEGAL_EC`, 0xEC (R360) -/
  | illegalEC
  /-- `ILLEGAL_ED`, 0xED (R360) -/
  | illegalED
  /-- `RST 28H`, 0xEF (R316) -/
  | rst28
  /-- `POP AF`, 0xF1 (R305) -/
  | popAf
  /-- `LD A,(C)`, 0xF2 (R271) -/
  | ldAAtC
  /-- `DI`, 0xF3 (R343) -/
  | di
  /-- `ILLEGAL_F4`, 0xF4 (R360) -/
  | illegalF4
  /-- `PUSH AF`, 0xF5 (R303) -/
  | pushAf
  /-- `RST 30H`, 0xF7 (R316) -/
  | rst30
  /-- `LD SP,HL`, 0xF9 (R279) -/
  | ldSpHl
  /-- `EI`, 0xFB (R344) -/
  | ei
  /-- `ILLEGAL_FC`, 0xFC (R360) -/
  | illegalFC
  /-- `ILLEGAL_FD`, 0xFD (R360) -/
  | illegalFD
  /-- `RST 38H`, 0xFF (R316) -/
  | rst38
  /-- `RLC B`, 0xCB 0x00 (R225) -/
  | rlcB
  /-- `RLC C`, 0xCB 0x01 (R225) -/
  | rlcC
  /-- `RLC D`, 0xCB 0x02 (R225) -/
  | rlcD
  /-- `RLC E`, 0xCB 0x03 (R225) -/
  | rlcE
  /-- `RLC H`, 0xCB 0x04 (R225) -/
  | rlcH
  /-- `RLC L`, 0xCB 0x05 (R225) -/
  | rlcL
  /-- `RLC (HL)`, 0xCB 0x06 (R226) -/
  | rlcAtHl
  /-- `RLC A`, 0xCB 0x07 (R225) -/
  | rlcA
  /-- `RRC B`, 0xCB 0x08 (R227) -/
  | rrcB
  /-- `RRC C`, 0xCB 0x09 (R227) -/
  | rrcC
  /-- `RRC D`, 0xCB 0x0A (R227) -/
  | rrcD
  /-- `RRC E`, 0xCB 0x0B (R227) -/
  | rrcE
  /-- `RRC H`, 0xCB 0x0C (R227) -/
  | rrcH
  /-- `RRC L`, 0xCB 0x0D (R227) -/
  | rrcL
  /-- `RRC (HL)`, 0xCB 0x0E (R228) -/
  | rrcAtHl
  /-- `RRC A`, 0xCB 0x0F (R227) -/
  | rrcA
  /-- `RL B`, 0xCB 0x10 (R229) -/
  | rlB
  /-- `RL C`, 0xCB 0x11 (R229) -/
  | rlC
  /-- `RL D`, 0xCB 0x12 (R229) -/
  | rlD
  /-- `RL E`, 0xCB 0x13 (R229) -/
  | rlE
  /-- `RL H`, 0xCB 0x14 (R229) -/
  | rlH
  /-- `RL L`, 0xCB 0x15 (R229) -/
  | rlL
  /-- `RL (HL)`, 0xCB 0x16 (R230) -/
  | rlAtHl
  /-- `RL A`, 0xCB 0x17 (R229) -/
  | rlA
  /-- `RR B`, 0xCB 0x18 (R231) -/
  | rrB
  /-- `RR C`, 0xCB 0x19 (R231) -/
  | rrC
  /-- `RR D`, 0xCB 0x1A (R231) -/
  | rrD
  /-- `RR E`, 0xCB 0x1B (R231) -/
  | rrE
  /-- `RR H`, 0xCB 0x1C (R231) -/
  | rrH
  /-- `RR L`, 0xCB 0x1D (R231) -/
  | rrL
  /-- `RR (HL)`, 0xCB 0x1E (R232) -/
  | rrAtHl
  /-- `RR A`, 0xCB 0x1F (R231) -/
  | rrA
  /-- `SLA B`, 0xCB 0x20 (R233) -/
  | slaB
  /-- `SLA C`, 0xCB 0x21 (R233) -/
  | slaC
  /-- `SLA D`, 0xCB 0x22 (R233) -/
  | slaD
  /-- `SLA E`, 0xCB 0x23 (R233) -/
  | slaE
  /-- `SLA H`, 0xCB 0x24 (R233) -/
  | slaH
  /-- `SLA L`, 0xCB 0x25 (R233) -/
  | slaL
  /-- `SLA (HL)`, 0xCB 0x26 (R234) -/
  | slaAtHl
  /-- `SLA A`, 0xCB 0x27 (R233) -/
  | slaA
  /-- `SRA B`, 0xCB 0x28 (R235) -/
  | sraB
  /-- `SRA C`, 0xCB 0x29 (R235) -/
  | sraC
  /-- `SRA D`, 0xCB 0x2A (R235) -/
  | sraD
  /-- `SRA E`, 0xCB 0x2B (R235) -/
  | sraE
  /-- `SRA H`, 0xCB 0x2C (R235) -/
  | sraH
  /-- `SRA L`, 0xCB 0x2D (R235) -/
  | sraL
  /-- `SRA (HL)`, 0xCB 0x2E (R236) -/
  | sraAtHl
  /-- `SRA A`, 0xCB 0x2F (R235) -/
  | sraA
  /-- `SWAP B`, 0xCB 0x30 (R237) -/
  | swapB
  /-- `SWAP C`, 0xCB 0x31 (R237) -/
  | swapC
  /-- `SWAP D`, 0xCB 0x32 (R237) -/
  | swapD
  /-- `SWAP E`, 0xCB 0x33 (R237) -/
  | swapE
  /-- `SWAP H`, 0xCB 0x34 (R237) -/
  | swapH
  /-- `SWAP L`, 0xCB 0x35 (R237) -/
  | swapL
  /-- `SWAP (HL)`, 0xCB 0x36 (R238) -/
  | swapAtHl
  /-- `SWAP A`, 0xCB 0x37 (R237) -/
  | swapA
  /-- `SRL B`, 0xCB 0x38 (R239) -/
  | srlB
  /-- `SRL C`, 0xCB 0x39 (R239) -/
  | srlC
  /-- `SRL D`, 0xCB 0x3A (R239) -/
  | srlD
  /-- `SRL E`, 0xCB 0x3B (R239) -/
  | srlE
  /-- `SRL H`, 0xCB 0x3C (R239) -/
  | srlH
  /-- `SRL L`, 0xCB 0x3D (R239) -/
  | srlL
  /-- `SRL (HL)`, 0xCB 0x3E (R240) -/
  | srlAtHl
  /-- `SRL A`, 0xCB 0x3F (R239) -/
  | srlA
  /-- `BIT 0,B`, 0xCB 0x40 (R241) -/
  | bit0B
  /-- `BIT 0,C`, 0xCB 0x41 (R241) -/
  | bit0C
  /-- `BIT 0,D`, 0xCB 0x42 (R241) -/
  | bit0D
  /-- `BIT 0,E`, 0xCB 0x43 (R241) -/
  | bit0E
  /-- `BIT 0,H`, 0xCB 0x44 (R241) -/
  | bit0H
  /-- `BIT 0,L`, 0xCB 0x45 (R241) -/
  | bit0L
  /-- `BIT 0,(HL)`, 0xCB 0x46 (R242) -/
  | bit0AtHl
  /-- `BIT 0,A`, 0xCB 0x47 (R241) -/
  | bit0A
  /-- `BIT 1,B`, 0xCB 0x48 (R241) -/
  | bit1B
  /-- `BIT 1,C`, 0xCB 0x49 (R241) -/
  | bit1C
  /-- `BIT 1,D`, 0xCB 0x4A (R241) -/
  | bit1D
  /-- `BIT 1,E`, 0xCB 0x4B (R241) -/
  | bit1E
  /-- `BIT 1,H`, 0xCB 0x4C (R241) -/
  | bit1H
  /-- `BIT 1,L`, 0xCB 0x4D (R241) -/
  | bit1L
  /-- `BIT 1,(HL)`, 0xCB 0x4E (R242) -/
  | bit1AtHl
  /-- `BIT 1,A`, 0xCB 0x4F (R241) -/
  | bit1A
  /-- `BIT 2,B`, 0xCB 0x50 (R241) -/
  | bit2B
  /-- `BIT 2,C`, 0xCB 0x51 (R241) -/
  | bit2C
  /-- `BIT 2,D`, 0xCB 0x52 (R241) -/
  | bit2D
  /-- `BIT 2,E`, 0xCB 0x53 (R241) -/
  | bit2E
  /-- `BIT 2,H`, 0xCB 0x54 (R241) -/
  | bit2H
  /-- `BIT 2,L`, 0xCB 0x55 (R241) -/
  | bit2L
  /-- `BIT 2,(HL)`, 0xCB 0x56 (R242) -/
  | bit2AtHl
  /-- `BIT 2,A`, 0xCB 0x57 (R241) -/
  | bit2A
  /-- `BIT 3,B`, 0xCB 0x58 (R241) -/
  | bit3B
  /-- `BIT 3,C`, 0xCB 0x59 (R241) -/
  | bit3C
  /-- `BIT 3,D`, 0xCB 0x5A (R241) -/
  | bit3D
  /-- `BIT 3,E`, 0xCB 0x5B (R241) -/
  | bit3E
  /-- `BIT 3,H`, 0xCB 0x5C (R241) -/
  | bit3H
  /-- `BIT 3,L`, 0xCB 0x5D (R241) -/
  | bit3L
  /-- `BIT 3,(HL)`, 0xCB 0x5E (R242) -/
  | bit3AtHl
  /-- `BIT 3,A`, 0xCB 0x5F (R241) -/
  | bit3A
  /-- `BIT 4,B`, 0xCB 0x60 (R241) -/
  | bit4B
  /-- `BIT 4,C`, 0xCB 0x61 (R241) -/
  | bit4C
  /-- `BIT 4,D`, 0xCB 0x62 (R241) -/
  | bit4D
  /-- `BIT 4,E`, 0xCB 0x63 (R241) -/
  | bit4E
  /-- `BIT 4,H`, 0xCB 0x64 (R241) -/
  | bit4H
  /-- `BIT 4,L`, 0xCB 0x65 (R241) -/
  | bit4L
  /-- `BIT 4,(HL)`, 0xCB 0x66 (R242) -/
  | bit4AtHl
  /-- `BIT 4,A`, 0xCB 0x67 (R241) -/
  | bit4A
  /-- `BIT 5,B`, 0xCB 0x68 (R241) -/
  | bit5B
  /-- `BIT 5,C`, 0xCB 0x69 (R241) -/
  | bit5C
  /-- `BIT 5,D`, 0xCB 0x6A (R241) -/
  | bit5D
  /-- `BIT 5,E`, 0xCB 0x6B (R241) -/
  | bit5E
  /-- `BIT 5,H`, 0xCB 0x6C (R241) -/
  | bit5H
  /-- `BIT 5,L`, 0xCB 0x6D (R241) -/
  | bit5L
  /-- `BIT 5,(HL)`, 0xCB 0x6E (R242) -/
  | bit5AtHl
  /-- `BIT 5,A`, 0xCB 0x6F (R241) -/
  | bit5A
  /-- `BIT 6,B`, 0xCB 0x70 (R241) -/
  | bit6B
  /-- `BIT 6,C`, 0xCB 0x71 (R241) -/
  | bit6C
  /-- `BIT 6,D`, 0xCB 0x72 (R241) -/
  | bit6D
  /-- `BIT 6,E`, 0xCB 0x73 (R241) -/
  | bit6E
  /-- `BIT 6,H`, 0xCB 0x74 (R241) -/
  | bit6H
  /-- `BIT 6,L`, 0xCB 0x75 (R241) -/
  | bit6L
  /-- `BIT 6,(HL)`, 0xCB 0x76 (R242) -/
  | bit6AtHl
  /-- `BIT 6,A`, 0xCB 0x77 (R241) -/
  | bit6A
  /-- `BIT 7,B`, 0xCB 0x78 (R241) -/
  | bit7B
  /-- `BIT 7,C`, 0xCB 0x79 (R241) -/
  | bit7C
  /-- `BIT 7,D`, 0xCB 0x7A (R241) -/
  | bit7D
  /-- `BIT 7,E`, 0xCB 0x7B (R241) -/
  | bit7E
  /-- `BIT 7,H`, 0xCB 0x7C (R241) -/
  | bit7H
  /-- `BIT 7,L`, 0xCB 0x7D (R241) -/
  | bit7L
  /-- `BIT 7,(HL)`, 0xCB 0x7E (R242) -/
  | bit7AtHl
  /-- `BIT 7,A`, 0xCB 0x7F (R241) -/
  | bit7A
  /-- `RES 0,B`, 0xCB 0x80 (R243) -/
  | res0B
  /-- `RES 0,C`, 0xCB 0x81 (R243) -/
  | res0C
  /-- `RES 0,D`, 0xCB 0x82 (R243) -/
  | res0D
  /-- `RES 0,E`, 0xCB 0x83 (R243) -/
  | res0E
  /-- `RES 0,H`, 0xCB 0x84 (R243) -/
  | res0H
  /-- `RES 0,L`, 0xCB 0x85 (R243) -/
  | res0L
  /-- `RES 0,(HL)`, 0xCB 0x86 (R244) -/
  | res0AtHl
  /-- `RES 0,A`, 0xCB 0x87 (R243) -/
  | res0A
  /-- `RES 1,B`, 0xCB 0x88 (R243) -/
  | res1B
  /-- `RES 1,C`, 0xCB 0x89 (R243) -/
  | res1C
  /-- `RES 1,D`, 0xCB 0x8A (R243) -/
  | res1D
  /-- `RES 1,E`, 0xCB 0x8B (R243) -/
  | res1E
  /-- `RES 1,H`, 0xCB 0x8C (R243) -/
  | res1H
  /-- `RES 1,L`, 0xCB 0x8D (R243) -/
  | res1L
  /-- `RES 1,(HL)`, 0xCB 0x8E (R244) -/
  | res1AtHl
  /-- `RES 1,A`, 0xCB 0x8F (R243) -/
  | res1A
  /-- `RES 2,B`, 0xCB 0x90 (R243) -/
  | res2B
  /-- `RES 2,C`, 0xCB 0x91 (R243) -/
  | res2C
  /-- `RES 2,D`, 0xCB 0x92 (R243) -/
  | res2D
  /-- `RES 2,E`, 0xCB 0x93 (R243) -/
  | res2E
  /-- `RES 2,H`, 0xCB 0x94 (R243) -/
  | res2H
  /-- `RES 2,L`, 0xCB 0x95 (R243) -/
  | res2L
  /-- `RES 2,(HL)`, 0xCB 0x96 (R244) -/
  | res2AtHl
  /-- `RES 2,A`, 0xCB 0x97 (R243) -/
  | res2A
  /-- `RES 3,B`, 0xCB 0x98 (R243) -/
  | res3B
  /-- `RES 3,C`, 0xCB 0x99 (R243) -/
  | res3C
  /-- `RES 3,D`, 0xCB 0x9A (R243) -/
  | res3D
  /-- `RES 3,E`, 0xCB 0x9B (R243) -/
  | res3E
  /-- `RES 3,H`, 0xCB 0x9C (R243) -/
  | res3H
  /-- `RES 3,L`, 0xCB 0x9D (R243) -/
  | res3L
  /-- `RES 3,(HL)`, 0xCB 0x9E (R244) -/
  | res3AtHl
  /-- `RES 3,A`, 0xCB 0x9F (R243) -/
  | res3A
  /-- `RES 4,B`, 0xCB 0xA0 (R243) -/
  | res4B
  /-- `RES 4,C`, 0xCB 0xA1 (R243) -/
  | res4C
  /-- `RES 4,D`, 0xCB 0xA2 (R243) -/
  | res4D
  /-- `RES 4,E`, 0xCB 0xA3 (R243) -/
  | res4E
  /-- `RES 4,H`, 0xCB 0xA4 (R243) -/
  | res4H
  /-- `RES 4,L`, 0xCB 0xA5 (R243) -/
  | res4L
  /-- `RES 4,(HL)`, 0xCB 0xA6 (R244) -/
  | res4AtHl
  /-- `RES 4,A`, 0xCB 0xA7 (R243) -/
  | res4A
  /-- `RES 5,B`, 0xCB 0xA8 (R243) -/
  | res5B
  /-- `RES 5,C`, 0xCB 0xA9 (R243) -/
  | res5C
  /-- `RES 5,D`, 0xCB 0xAA (R243) -/
  | res5D
  /-- `RES 5,E`, 0xCB 0xAB (R243) -/
  | res5E
  /-- `RES 5,H`, 0xCB 0xAC (R243) -/
  | res5H
  /-- `RES 5,L`, 0xCB 0xAD (R243) -/
  | res5L
  /-- `RES 5,(HL)`, 0xCB 0xAE (R244) -/
  | res5AtHl
  /-- `RES 5,A`, 0xCB 0xAF (R243) -/
  | res5A
  /-- `RES 6,B`, 0xCB 0xB0 (R243) -/
  | res6B
  /-- `RES 6,C`, 0xCB 0xB1 (R243) -/
  | res6C
  /-- `RES 6,D`, 0xCB 0xB2 (R243) -/
  | res6D
  /-- `RES 6,E`, 0xCB 0xB3 (R243) -/
  | res6E
  /-- `RES 6,H`, 0xCB 0xB4 (R243) -/
  | res6H
  /-- `RES 6,L`, 0xCB 0xB5 (R243) -/
  | res6L
  /-- `RES 6,(HL)`, 0xCB 0xB6 (R244) -/
  | res6AtHl
  /-- `RES 6,A`, 0xCB 0xB7 (R243) -/
  | res6A
  /-- `RES 7,B`, 0xCB 0xB8 (R243) -/
  | res7B
  /-- `RES 7,C`, 0xCB 0xB9 (R243) -/
  | res7C
  /-- `RES 7,D`, 0xCB 0xBA (R243) -/
  | res7D
  /-- `RES 7,E`, 0xCB 0xBB (R243) -/
  | res7E
  /-- `RES 7,H`, 0xCB 0xBC (R243) -/
  | res7H
  /-- `RES 7,L`, 0xCB 0xBD (R243) -/
  | res7L
  /-- `RES 7,(HL)`, 0xCB 0xBE (R244) -/
  | res7AtHl
  /-- `RES 7,A`, 0xCB 0xBF (R243) -/
  | res7A
  /-- `SET 0,B`, 0xCB 0xC0 (R245) -/
  | set0B
  /-- `SET 0,C`, 0xCB 0xC1 (R245) -/
  | set0C
  /-- `SET 0,D`, 0xCB 0xC2 (R245) -/
  | set0D
  /-- `SET 0,E`, 0xCB 0xC3 (R245) -/
  | set0E
  /-- `SET 0,H`, 0xCB 0xC4 (R245) -/
  | set0H
  /-- `SET 0,L`, 0xCB 0xC5 (R245) -/
  | set0L
  /-- `SET 0,(HL)`, 0xCB 0xC6 (R246) -/
  | set0AtHl
  /-- `SET 0,A`, 0xCB 0xC7 (R245) -/
  | set0A
  /-- `SET 1,B`, 0xCB 0xC8 (R245) -/
  | set1B
  /-- `SET 1,C`, 0xCB 0xC9 (R245) -/
  | set1C
  /-- `SET 1,D`, 0xCB 0xCA (R245) -/
  | set1D
  /-- `SET 1,E`, 0xCB 0xCB (R245) -/
  | set1E
  /-- `SET 1,H`, 0xCB 0xCC (R245) -/
  | set1H
  /-- `SET 1,L`, 0xCB 0xCD (R245) -/
  | set1L
  /-- `SET 1,(HL)`, 0xCB 0xCE (R246) -/
  | set1AtHl
  /-- `SET 1,A`, 0xCB 0xCF (R245) -/
  | set1A
  /-- `SET 2,B`, 0xCB 0xD0 (R245) -/
  | set2B
  /-- `SET 2,C`, 0xCB 0xD1 (R245) -/
  | set2C
  /-- `SET 2,D`, 0xCB 0xD2 (R245) -/
  | set2D
  /-- `SET 2,E`, 0xCB 0xD3 (R245) -/
  | set2E
  /-- `SET 2,H`, 0xCB 0xD4 (R245) -/
  | set2H
  /-- `SET 2,L`, 0xCB 0xD5 (R245) -/
  | set2L
  /-- `SET 2,(HL)`, 0xCB 0xD6 (R246) -/
  | set2AtHl
  /-- `SET 2,A`, 0xCB 0xD7 (R245) -/
  | set2A
  /-- `SET 3,B`, 0xCB 0xD8 (R245) -/
  | set3B
  /-- `SET 3,C`, 0xCB 0xD9 (R245) -/
  | set3C
  /-- `SET 3,D`, 0xCB 0xDA (R245) -/
  | set3D
  /-- `SET 3,E`, 0xCB 0xDB (R245) -/
  | set3E
  /-- `SET 3,H`, 0xCB 0xDC (R245) -/
  | set3H
  /-- `SET 3,L`, 0xCB 0xDD (R245) -/
  | set3L
  /-- `SET 3,(HL)`, 0xCB 0xDE (R246) -/
  | set3AtHl
  /-- `SET 3,A`, 0xCB 0xDF (R245) -/
  | set3A
  /-- `SET 4,B`, 0xCB 0xE0 (R245) -/
  | set4B
  /-- `SET 4,C`, 0xCB 0xE1 (R245) -/
  | set4C
  /-- `SET 4,D`, 0xCB 0xE2 (R245) -/
  | set4D
  /-- `SET 4,E`, 0xCB 0xE3 (R245) -/
  | set4E
  /-- `SET 4,H`, 0xCB 0xE4 (R245) -/
  | set4H
  /-- `SET 4,L`, 0xCB 0xE5 (R245) -/
  | set4L
  /-- `SET 4,(HL)`, 0xCB 0xE6 (R246) -/
  | set4AtHl
  /-- `SET 4,A`, 0xCB 0xE7 (R245) -/
  | set4A
  /-- `SET 5,B`, 0xCB 0xE8 (R245) -/
  | set5B
  /-- `SET 5,C`, 0xCB 0xE9 (R245) -/
  | set5C
  /-- `SET 5,D`, 0xCB 0xEA (R245) -/
  | set5D
  /-- `SET 5,E`, 0xCB 0xEB (R245) -/
  | set5E
  /-- `SET 5,H`, 0xCB 0xEC (R245) -/
  | set5H
  /-- `SET 5,L`, 0xCB 0xED (R245) -/
  | set5L
  /-- `SET 5,(HL)`, 0xCB 0xEE (R246) -/
  | set5AtHl
  /-- `SET 5,A`, 0xCB 0xEF (R245) -/
  | set5A
  /-- `SET 6,B`, 0xCB 0xF0 (R245) -/
  | set6B
  /-- `SET 6,C`, 0xCB 0xF1 (R245) -/
  | set6C
  /-- `SET 6,D`, 0xCB 0xF2 (R245) -/
  | set6D
  /-- `SET 6,E`, 0xCB 0xF3 (R245) -/
  | set6E
  /-- `SET 6,H`, 0xCB 0xF4 (R245) -/
  | set6H
  /-- `SET 6,L`, 0xCB 0xF5 (R245) -/
  | set6L
  /-- `SET 6,(HL)`, 0xCB 0xF6 (R246) -/
  | set6AtHl
  /-- `SET 6,A`, 0xCB 0xF7 (R245) -/
  | set6A
  /-- `SET 7,B`, 0xCB 0xF8 (R245) -/
  | set7B
  /-- `SET 7,C`, 0xCB 0xF9 (R245) -/
  | set7C
  /-- `SET 7,D`, 0xCB 0xFA (R245) -/
  | set7D
  /-- `SET 7,E`, 0xCB 0xFB (R245) -/
  | set7E
  /-- `SET 7,H`, 0xCB 0xFC (R245) -/
  | set7H
  /-- `SET 7,L`, 0xCB 0xFD (R245) -/
  | set7L
  /-- `SET 7,(HL)`, 0xCB 0xFE (R246) -/
  | set7AtHl
  /-- `SET 7,A`, 0xCB 0xFF (R245) -/
  | set7A
deriving DecidableEq, Repr

end Sys2Proof
end

