-- ==== Sys2Proof/Machine/Flags.lean ====
section
/-! DEFINITION. The flag unit: every computation of a result with its flags (R140 to R145, R185, R200, R201 and the
bit movements of R220 to R240). -/

namespace Sys2Proof.Machine

/-- F as the byte software sees (R34): Z in bit 7, N in bit 6, H in bit 5, C in bit 4, the low nibble 0. -/
def Flags.toByte (f : Flags) : Byte :=
  BitVec.ofBool f.z ++ BitVec.ofBool f.n ++ BitVec.ofBool f.h ++ BitVec.ofBool f.c ++ (0 : BitVec 4)

/-- What a write of a whole byte to F stores: `v & 0xF0` (R35), so only bits 7..4 are kept. -/
def Flags.ofByte (v : Byte) : Flags := ⟨v.getLsbD 7, v.getLsbD 6, v.getLsbD 5, v.getLsbD 4⟩

/-- A result byte with the four flags. -/
structure AluOut where
  value : Byte
  flags : Flags
deriving DecidableEq, Repr

/-- `add8(a, b, c)` (R140), on 9 bits, which hold every sum: `cb = a ^ b ^ r`, H its bit 4 and C its bit 8. -/
def add8 (a b : Byte) (c : Bool) : AluOut :=
  let r := a.setWidth 9 + b.setWidth 9 + (BitVec.ofBool c).setWidth 9
  let cb := a.setWidth 9 ^^^ b.setWidth 9 ^^^ r
  let res := r.setWidth 8
  ⟨res, ⟨res == 0, false, cb.getLsbD 4, cb.getLsbD 8⟩⟩

/-- `sub8(a, b, c)` (R141): `cb = (a ^ b ^ r) mod 512`, the two's complement bits of the difference. -/
def sub8 (a b : Byte) (c : Bool) : AluOut :=
  let r := a.setWidth 9 - b.setWidth 9 - (BitVec.ofBool c).setWidth 9
  let cb := a.setWidth 9 ^^^ b.setWidth 9 ^^^ r
  let res := r.setWidth 8
  ⟨res, ⟨res == 0, true, cb.getLsbD 4, cb.getLsbD 8⟩⟩

/-- `and8(a, b)` (R142). -/
def and8 (a b : Byte) : AluOut := ⟨a &&& b, ⟨a &&& b == 0, false, true, false⟩⟩

/-- `xor8(a, b)` (R143). -/
def xor8 (a b : Byte) : AluOut := ⟨a ^^^ b, ⟨a ^^^ b == 0, false, false, false⟩⟩

/-- `or8(a, b)` (R144). -/
def or8 (a b : Byte) : AluOut := ⟨a ||| b, ⟨a ||| b == 0, false, false, false⟩⟩

/-- The eight operations of R107 on A (`a`), the operand (`b`) and the carry flag. CP is `sub8` with its result
discarded: 'computes flags only' (R171), so the value is A's own. -/
def alu (op : AluOp) (a b : Byte) (c : Bool) : AluOut :=
  match op with
  | .add => add8 a b false
  | .adc => add8 a b c
  | .sub => sub8 a b false
  | .sbc => sub8 a b c
  | .and => and8 a b
  | .xor => xor8 a b
  | .or => or8 a b
  | .cp => ⟨a, (sub8 a b false).flags⟩

/-- INC of a byte (R180): `add8(v, 1, 0)` with C unchanged. -/
def inc8 (v : Byte) (f : Flags) : AluOut :=
  let out := add8 v 1 false
  ⟨out.value, { f with z := out.flags.z, n := false, h := out.flags.h }⟩

/-- DEC of a byte (R182): `sub8(v, 1, 0)` with C unchanged. -/
def dec8 (v : Byte) (f : Flags) : AluOut :=
  let out := sub8 v 1 false
  ⟨out.value, { f with z := out.flags.z, n := true, h := out.flags.h }⟩

/-- DAA (R185), on integers: 't is an unbounded integer, so the test t > 0x9F sees the value before any wrap'. -/
def daa (a : Byte) (f : Flags) : AluOut :=
  let t0 : Int := a.toNat
  if f.n = false then
    let t1 := if f.h = true ∨ a.toNat % 16 > 9 then t0 + 0x06 else t0
    let high : Bool := f.c || decide (t1 > 0x9F)
    let t2 := if high then t1 + 0x60 else t1
    let res := BitVec.ofInt 8 t2
    ⟨res, ⟨res == 0, f.n, false, high⟩⟩
  else
    let t1 := if f.h = true then t0 - 0x06 else t0
    let t2 := if f.c = true then t1 - 0x60 else t1
    let res := BitVec.ofInt 8 t2
    ⟨res, ⟨res == 0, f.n, false, f.c⟩⟩

/-- A 16-bit result with its H and C. -/
structure Add16Out where
  value : Word
  h : Bool
  c : Bool
deriving DecidableEq, Repr

/-- `add16(a, b)` (R200), on 17 bits: H16 is bit 12 and C16 bit 16 of `a ^ b ^ r`. -/
def add16 (a b : Word) : Add16Out :=
  let r := a.setWidth 17 + b.setWidth 17
  let cb := a.setWidth 17 ^^^ b.setWidth 17 ^^^ r
  ⟨r.setWidth 16, cb.getLsbD 12, cb.getLsbD 16⟩

/-- `sp_plus(sp, d)` (R201): the displacement is sign-extended to 16 bits; the parameter `ADD_SP_FLAGS` chooses the
bits that give H and C. -/
def spPlus (mode : AddSpFlags) (sp : Word) (d : Byte) : Add16Out :=
  let e := sext16 d
  let r := sp.setWidth 17 + e.setWidth 17
  let cb := sp.setWidth 17 ^^^ e.setWidth 17 ^^^ r
  match mode with
  | .doc16 => ⟨r.setWidth 16, cb.getLsbD 12, cb.getLsbD 16⟩
  | .hw8 => ⟨r.setWidth 16, cb.getLsbD 4, cb.getLsbD 8⟩

/-- A rotated or shifted byte and the bit that goes to C. -/
structure RotOut where
  value : Byte
  carry : Bool
deriving DecidableEq, Repr

/-- The byte whose only possible set bit is bit 7, or bit 0: `co * 0x80` and `co` in R220 to R240. -/
def bit7 (b : Bool) : Byte := if b then 0x80 else 0x00

/-- See `bit7`. -/
def bit0 (b : Bool) : Byte := if b then 0x01 else 0x00

/-- The eight rotates and shifts of R110 on a byte and the carry flag (R225 to R240). -/
def rotate (op : RotOp) (v : Byte) (c : Bool) : RotOut :=
  match op with
  | .rlc => ⟨(v <<< 1) ||| bit0 (v.getLsbD 7), v.getLsbD 7⟩
  | .rrc => ⟨(v >>> 1) ||| bit7 (v.getLsbD 0), v.getLsbD 0⟩
  | .rl => ⟨(v <<< 1) ||| bit0 c, v.getLsbD 7⟩
  | .rr => ⟨(v >>> 1) ||| bit7 c, v.getLsbD 0⟩
  | .sla => ⟨v <<< 1, v.getLsbD 7⟩
  | .sra => ⟨(v >>> 1) ||| (v &&& 0x80), v.getLsbD 0⟩
  | .swap => ⟨(v <<< 4) ||| (v >>> 4), false⟩
  | .srl => ⟨v >>> 1, v.getLsbD 0⟩

/-- The flags of a CB rotate or shift: Z from the result, N and H cleared, C the bit shifted out (R225 to R240). -/
def rotFlags (out : RotOut) : Flags := ⟨out.value == 0, false, false, out.carry⟩

/-- The flags of an accumulator rotate: Z forced to 0 (R220 to R223). -/
def rotAFlags (out : RotOut) : Flags := ⟨false, false, false, out.carry⟩

/-- The flags of BIT: Z the complement of the tested bit, N 0, H 1, C unchanged (R241). -/
def bitFlags (v : Byte) (b : Nat) (f : Flags) : Flags := ⟨!v.getLsbD b, false, true, f.c⟩

end Sys2Proof.Machine
end

