-- ==== Sys2Proof/Machine/Ops.lean ====
section
/-! DEFINITION. The named operations over registers, the bus and the stack; the interrupt controller's operations,
taking an interrupt among them, and the return from one. -/

namespace Sys2Proof.Machine

/-- What a meaning answers. -/
abbrev Out := Host.Outcome State Fault Refusal

/-- The instruction is over and the step returns `n` M-cycles: `cycles <- n` (R16). -/
def done (n : Nat) (s : State) : Out := .next { s with outcome := some (.executed n) }

/-- The source's return value `cycles_consumed` (R401). -/
def StepOutcome.cycles : StepOutcome → Nat
  | .executed n => n
  | .dispatch _ n => n
  | .idle n => n
  | .stuck => 0

/-- The M-cycles that the instruction just executed returned. -/
def State.cycles (s : State) : Nat :=
  match s.outcome with
  | some o => o.cycles
  | none => 0

/-! ### Registers (R30, R31) -/

/-- `x[r]`: an 8-bit register by its code's register (R13, R104). -/
def State.reg8 (s : State) : Reg8 → Byte
  | .b => s.b | .c => s.c | .d => s.d | .e => s.e | .h => s.h | .l => s.l | .a => s.a

/-- `x[r] <- v` (R13). -/
def State.setReg8 (s : State) (r : Reg8) (v : Byte) : State :=
  match r with
  | .b => { s with b := v } | .c => { s with c := v } | .d => { s with d := v } | .e => { s with e := v }
  | .h => { s with h := v } | .l => { s with l := v } | .a => { s with a := v }

/-- `x[AF] = (x[A] ++ x[F])` (R31). -/
def State.af (s : State) : Word := concat16 s.a s.f.toByte

/-- `x[BC] = (x[B] ++ x[C])` (R31). -/
def State.bc (s : State) : Word := concat16 s.b s.c

/-- `x[DE] = (x[D] ++ x[E])` (R31). -/
def State.de (s : State) : Word := concat16 s.d s.e

/-- `x[HL] = (x[H] ++ x[L])` (R31). -/
def State.hl (s : State) : Word := concat16 s.h s.l

/-- Writing AF: A whole, F masked with 0xF0 (R31, R35). -/
def State.setAf (s : State) (v : Word) : State := { s with a := highByte v, f := Flags.ofByte (lowByte v) }

/-- Writing BC writes both halves (R31). -/
def State.setBc (s : State) (v : Word) : State := { s with b := highByte v, c := lowByte v }

/-- Writing DE writes both halves (R31). -/
def State.setDe (s : State) (v : Word) : State := { s with d := highByte v, e := lowByte v }

/-- Writing HL writes both halves (R31). -/
def State.setHl (s : State) (v : Word) : State := { s with h := highByte v, l := lowByte v }

/-- `x[rr]` for a group-1 pair (R105). -/
def State.pair1 (s : State) : Pair1 → Word
  | .bc => s.bc | .de => s.de | .hl => s.hl | .sp => s.sp

/-- `x[rr] <- v` for a group-1 pair. -/
def State.setPair1 (s : State) (p : Pair1) (v : Word) : State :=
  match p with
  | .bc => s.setBc v | .de => s.setDe v | .hl => s.setHl v | .sp => { s with sp := v }

/-- `x[rr]` for a group-2 pair (R105). -/
def State.pair2 (s : State) : Pair2 → Word
  | .bc => s.bc | .de => s.de | .hl => s.hl | .af => s.af

/-- `x[rr] <- v` for a group-2 pair (R304, R305). -/
def State.setPair2 (s : State) (p : Pair2) (v : Word) : State :=
  match p with
  | .bc => s.setBc v | .de => s.setDe v | .hl => s.setHl v | .af => s.setAf v

/-! ### The bus (R70 to R77): the value of an access, and the state after it -/

/-- The byte `MemRead(a, 1)` returns: what the bus returns for `a` (R14, R70). -/
def State.peek (s : State) (a : Word) : Byte := s.config.bus.read8 s.mem a

/-- The state after `MemRead(a, 1)`: a read may have any effect the bus defines, and the access is recorded (R76). -/
def State.afterRead (s : State) (a : Word) : State :=
  { s with mem := s.config.bus.afterRead8 s.mem a, trace := s.trace ++ [.read a (s.peek a)] }

/-- `MemWrite(a, 1, v)` by the timer or by any other part of the core: the bus does what it defines, and the access is
recorded (R14, R76). -/
def State.writeAs (byTimer : Bool) (s : State) (a : Word) (v : Byte) : State :=
  { s with mem := s.config.bus.afterWrite8 s.mem byTimer a v, trace := s.trace ++ [.write a v] }

/-- `MemWrite(a, 1, v)` (R14). -/
def State.write8 (s : State) (a : Word) (v : Byte) : State := s.writeAs false a v

/-- `MemWrite(a, 1, v)` of the timer, 'through the same interface' (R76, R430). -/
def State.timerWrite8 (s : State) (a : Word) (v : Byte) : State := s.writeAs true a v

/-- The value `MemRead(a, 2)` returns: `(MemRead(a+1, 1) ++ MemRead(a, 1))`, `a+1` modulo 2^16, the low byte read first
(R14, R77). -/
def State.peek16 (s : State) (a : Word) : Word := concat16 ((s.afterRead a).peek (a + 1)) (s.peek a)

/-- The state after `MemRead(a, 2)`: the low byte is read first (R14). -/
def State.afterRead16 (s : State) (a : Word) : State := (s.afterRead a).afterRead (a + 1)

/-- `MemWrite(a, 2, v)`: the low byte to `a`, then the high byte to `a+1` (R14, R72). -/
def State.write16 (s : State) (a : Word) (v : Word) : State :=
  (s.write8 a (lowByte v)).write8 (a + 1) (highByte v)

/-! ### The stack (R300, R301) -/

/-- `push16(v)`: SP is decremented by 2, then `v` is stored at the new SP (R300). -/
def State.push16 (s : State) (v : Word) : State := { s with sp := s.sp - 2 }.write16 (s.sp - 2) v

/-- The value `pop16()` returns: the 16 bits at SP (R301). -/
def State.popValue (s : State) : Word := s.peek16 s.sp

/-- The state after `pop16()`: SP is incremented by 2 (R301). -/
def State.afterPop (s : State) : State := { s.afterRead16 s.sp with sp := s.sp + 2 }

/-! ### Conditions (R302) -/

/-- `cond(cc)`: 'reads only F' (R302). -/
def condHolds (cc : Cond) (f : Flags) : Bool :=
  match cc with
  | .nz => !f.z
  | .z => f.z
  | .nc => !f.c
  | .c => f.c

/-! ### The memory-mapped registers (R48) -/

/-- DIV, 0xFF04. -/
def addrDiv : Word := 0xFF04

/-- TIMA, 0xFF05. -/
def addrTima : Word := 0xFF05

/-- TMA, 0xFF06. -/
def addrTma : Word := 0xFF06

/-- TAC, 0xFF07. -/
def addrTac : Word := 0xFF07

/-- IF, 0xFF0F. -/
def addrIf : Word := 0xFF0F

/-- IE, 0xFFFF. -/
def addrIe : Word := 0xFFFF

/-! ### The interrupt controller (R410 to R417) -/

/-- The bit of an interrupt in IF and IE (R410, R50). -/
def Irq.bit : Irq → Nat
  | .vblank => 0 | .lcdStat => 1 | .timer => 2 | .serial => 3 | .joypad => 4

/-- The vector of an interrupt: `0x0040 + 8 * k` (R416, R410). -/
def Irq.vector (k : Irq) : Word := 0x0040 + BitVec.ofNat 16 (8 * k.bit)

/-- The value of `pending()`: `MemRead(IE, 1) & MemRead(IF, 1) & 0x1F`, IE read first (R411). -/
def State.pending (s : State) : Byte := s.peek addrIe &&& (s.afterRead addrIe).peek addrIf &&& 0x1F

/-- The state after `pending()`: IE is read first, then IF (R411). -/
def State.afterPending (s : State) : State := (s.afterRead addrIe).afterRead addrIf

/-- The lowest set bit of a pending mask: the interrupt that is served (R415); none if no source's bit is set. -/
def lowestIrq (p : Byte) : Option Irq :=
  if p.getLsbD 0 then some .vblank
  else if p.getLsbD 1 then some .lcdStat
  else if p.getLsbD 2 then some .timer
  else if p.getLsbD 3 then some .serial
  else if p.getLsbD 4 then some .joypad
  else none

/-- `requestInterrupt(k)`: `MemWrite(IF, 1, MemRead(IF, 1) | (1 << k))` (R412). -/
def State.requestIrq (s : State) (k : Irq) : State :=
  (s.afterRead addrIf).write8 addrIf (s.peek addrIf ||| bitMask k.bit)

/-- Dispatch's first action: `MemWrite(IF, 1, MemRead(IF, 1) & ~(1 << k))` (R414, R416). -/
def State.clearRequest (s : State) (k : Irq) : State :=
  (s.afterRead addrIf).write8 addrIf (s.peek addrIf &&& ~~~ bitMask k.bit)

/-- The return address a dispatch pushes: `pc`, or `pc - 1`, the address of the HALT, when the halt bug is armed
(R416, R422). -/
def State.returnAddress (s : State) : Word := if s.haltBugArmed then s.pc - 1 else s.pc

/-- `dispatch(k)` (R416): TAKING AN INTERRUPT, the one exception entry of this core. It clears the request bit, pushes
the return address, goes to the vector, and clears IME and `ei_pending`. No flag or other register is saved. -/
def State.takeInterrupt (s : State) (k : Irq) : State :=
  let ret := s.returnAddress
  let s1 := { s.clearRequest k with haltBugArmed := false }
  let s2 := s1.push16 ret
  { s2 with pc := k.vector, ime := false, eiPending := false }

/-- The return from an interrupt, RETI's effect (R315, R419): PC is popped and IME is set at once. -/
def State.returnFromInterrupt (s : State) : State :=
  { s.afterPop with pc := s.popValue, ime := true }

/-- The end of the EI delay (R405, step 4 of R400): IME becomes 1 if `ei_pending` was 1 at the start of the
instruction (`arm`) and still is. -/
def State.finishEi (arm : Bool) (s : State) : State :=
  if arm && s.eiPending then { s with ime := true, eiPending := false } else s

end Sys2Proof.Machine
end

