-- ==== Sys2Proof/Machine/Operands.lean ====
section
/-! DEFINITION. The operand forms (R104, R111, R224): reading and writing an operand selected by a register code, the
high-page address, and the operand numbers of BIT, RES, SET and RST. -/

namespace Sys2Proof.Machine

/-- The value of `src8(sss)` (R104): a register, or the byte at `x[HL]`. -/
def State.src8 (s : State) : Opnd8 → Byte
  | .reg r => s.reg8 r
  | .atHl => s.peek s.hl

/-- The state after `src8(sss)`: only the (HL) form reads memory, once (R224). -/
def State.afterSrc8 (s : State) : Opnd8 → State
  | .reg _ => s
  | .atHl => s.afterRead s.hl

/-- `dst8(ddd, v)` (R104): a register, or the byte at `x[HL]`. -/
def State.dst8 (s : State) (o : Opnd8) (v : Byte) : State :=
  match o with
  | .reg r => s.setReg8 r v
  | .atHl => s.write8 s.hl v

/-- An M-cycle count that is `r` for a register operand and `m` for the (HL) operand. -/
def opndCost (o : Opnd8) (r m : Nat) : Nat :=
  match o with
  | .reg _ => r
  | .atHl => m

/-- The high-page address `0xFF00 + v` (R111): the (a8) and (C) forms. -/
def highPage (v : Byte) : Word := 0xFF00 + zext16 v

/-- The bit number of `bbb` (R109). -/
def bitIndex : BitNo → Nat
  | .b0 => 0 | .b1 => 1 | .b2 => 2 | .b3 => 3 | .b4 => 4 | .b5 => 5 | .b6 => 6 | .b7 => 7

/-- The target of RST: `ttt * 8` (R108). -/
def rstTarget : RstVec → Word
  | .v00 => 0x0000 | .v08 => 0x0008 | .v10 => 0x0010 | .v18 => 0x0018
  | .v20 => 0x0020 | .v28 => 0x0028 | .v30 => 0x0030 | .v38 => 0x0038

/-- The opcode byte of an illegal slot (R115). -/
def illegalByte : IllegalSlot → Byte
  | .d3 => 0xD3 | .db => 0xDB | .dd => 0xDD | .e3 => 0xE3 | .e4 => 0xE4 | .eb => 0xEB
  | .ec => 0xEC | .ed => 0xED | .f4 => 0xF4 | .fc => 0xFC | .fd => 0xFD

end Sys2Proof.Machine
end

