-- ==== Sys2Proof/Machine/Alu16.lean ====
section
/-! DEFINITION. 16-bit arithmetic (41_alu16.md): ADD HL,rr, INC rr, DEC rr, ADD SP,r8, LD HL,SP+r8. -/

namespace Sys2Proof.Machine

/-! ### Shared operations -/

/-- `ADD HL,rr` (R202): Z unchanged. -/
def addHlPair (p : Pair1) (s : State) : Out :=
  let out := add16 s.hl (s.pair1 p)
  done 2 { s.setHl out.value with f := { s.f with n := false, h := out.h, c := out.c } }

/-- `INC rr` (R203): no flag written. -/
def incPair (p : Pair1) (s : State) : Out := done 2 (s.setPair1 p (s.pair1 p + 1))

/-- `DEC rr` (R204): no flag written. -/
def decPair (p : Pair1) (s : State) : Out := done 2 (s.setPair1 p (s.pair1 p - 1))

/-! ### One meaning per instruction -/

/-- `ADD HL,BC` (R202). -/
def execAddHlBc (s : State) : Out := addHlPair .bc s

/-- `ADD HL,DE` (R202). -/
def execAddHlDe (s : State) : Out := addHlPair .de s

/-- `ADD HL,HL` (R202). -/
def execAddHlHl (s : State) : Out := addHlPair .hl s

/-- `ADD HL,SP` (R202). -/
def execAddHlSp (s : State) : Out := addHlPair .sp s

/-- `INC BC` (R203). -/
def execIncBc (s : State) : Out := incPair .bc s

/-- `INC DE` (R203). -/
def execIncDe (s : State) : Out := incPair .de s

/-- `INC HL` (R203). -/
def execIncHl (s : State) : Out := incPair .hl s

/-- `INC SP` (R203). -/
def execIncSp (s : State) : Out := incPair .sp s

/-- `DEC BC` (R204). -/
def execDecBc (s : State) : Out := decPair .bc s

/-- `DEC DE` (R204). -/
def execDecDe (s : State) : Out := decPair .de s

/-- `DEC HL` (R204). -/
def execDecHl (s : State) : Out := decPair .hl s

/-- `DEC SP` (R204). -/
def execDecSp (s : State) : Out := decPair .sp s

/-- `ADD SP,r8` (R205). -/
def execAddSpR8 (r8 : Byte) (s : State) : Out := 
  let out := spPlus s.config.addSpFlags s.sp r8
  done 4 { s with sp := out.value, f := ⟨false, false, out.h, out.c⟩ }

/-- `LD HL,SP+r8` (R206). -/
def execLdHlSpR8 (r8 : Byte) (s : State) : Out := 
  let out := spPlus s.config.addSpFlags s.sp r8
  done 3 { s.setHl out.value with f := ⟨false, false, out.h, out.c⟩ }

end Sys2Proof.Machine
end

