-- ==== Sys2Proof/Machine/Alu8.lean ====
section
/-! DEFINITION. 8-bit arithmetic and logic (40_alu8.md): ADD, ADC, SUB, SBC, AND, XOR, OR, CP, INC, DEC, DAA, CPL, SCF, CCF. -/

namespace Sys2Proof.Machine

/-! ### Shared operations -/

/-- `ALU A,r` and `ALU A,(HL)` (R150 to R173): 'the source operand is read before A is written'. CP leaves A. -/
def aluOperand (op : AluOp) (o : Opnd8) (s : State) : Out :=
  let out := alu op s.a (s.src8 o) s.f.c
  done (opndCost o 1 2) { s.afterSrc8 o with a := out.value, f := out.flags }

/-- `ALU A,d8` (R152, R155, R158, R161, R164, R167, R170, R173). -/
def aluImmediate (op : AluOp) (v : Byte) (s : State) : Out :=
  let out := alu op s.a v s.f.c
  done 2 { s with a := out.value, f := out.flags }

/-- `INC r` and `INC (HL)` (R180, R181): 'one read then one write of the same address'. -/
def incOperand (o : Opnd8) (s : State) : Out :=
  let out := inc8 (s.src8 o) s.f
  done (opndCost o 1 3) { (s.afterSrc8 o).dst8 o out.value with f := out.flags }

/-- `DEC r` and `DEC (HL)` (R182, R183). -/
def decOperand (o : Opnd8) (s : State) : Out :=
  let out := dec8 (s.src8 o) s.f
  done (opndCost o 1 3) { (s.afterSrc8 o).dst8 o out.value with f := out.flags }

/-! ### One meaning per instruction -/

/-- `ADD A,B` (R150). -/
def execAddAB (s : State) : Out := aluOperand .add (.reg .b) s

/-- `ADD A,C` (R150). -/
def execAddAC (s : State) : Out := aluOperand .add (.reg .c) s

/-- `ADD A,D` (R150). -/
def execAddAD (s : State) : Out := aluOperand .add (.reg .d) s

/-- `ADD A,E` (R150). -/
def execAddAE (s : State) : Out := aluOperand .add (.reg .e) s

/-- `ADD A,H` (R150). -/
def execAddAH (s : State) : Out := aluOperand .add (.reg .h) s

/-- `ADD A,L` (R150). -/
def execAddAL (s : State) : Out := aluOperand .add (.reg .l) s

/-- `ADD A,(HL)` (R151). -/
def execAddAAtHl (s : State) : Out := aluOperand .add .atHl s

/-- `ADD A,A` (R150). -/
def execAddAA (s : State) : Out := aluOperand .add (.reg .a) s

/-- `ADC A,B` (R153). -/
def execAdcAB (s : State) : Out := aluOperand .adc (.reg .b) s

/-- `ADC A,C` (R153). -/
def execAdcAC (s : State) : Out := aluOperand .adc (.reg .c) s

/-- `ADC A,D` (R153). -/
def execAdcAD (s : State) : Out := aluOperand .adc (.reg .d) s

/-- `ADC A,E` (R153). -/
def execAdcAE (s : State) : Out := aluOperand .adc (.reg .e) s

/-- `ADC A,H` (R153). -/
def execAdcAH (s : State) : Out := aluOperand .adc (.reg .h) s

/-- `ADC A,L` (R153). -/
def execAdcAL (s : State) : Out := aluOperand .adc (.reg .l) s

/-- `ADC A,(HL)` (R154). -/
def execAdcAAtHl (s : State) : Out := aluOperand .adc .atHl s

/-- `ADC A,A` (R153). -/
def execAdcAA (s : State) : Out := aluOperand .adc (.reg .a) s

/-- `SUB B` (R156). -/
def execSubB (s : State) : Out := aluOperand .sub (.reg .b) s

/-- `SUB C` (R156). -/
def execSubC (s : State) : Out := aluOperand .sub (.reg .c) s

/-- `SUB D` (R156). -/
def execSubD (s : State) : Out := aluOperand .sub (.reg .d) s

/-- `SUB E` (R156). -/
def execSubE (s : State) : Out := aluOperand .sub (.reg .e) s

/-- `SUB H` (R156). -/
def execSubH (s : State) : Out := aluOperand .sub (.reg .h) s

/-- `SUB L` (R156). -/
def execSubL (s : State) : Out := aluOperand .sub (.reg .l) s

/-- `SUB (HL)` (R157). -/
def execSubAtHl (s : State) : Out := aluOperand .sub .atHl s

/-- `SUB A` (R156). -/
def execSubA (s : State) : Out := aluOperand .sub (.reg .a) s

/-- `SBC A,B` (R159). -/
def execSbcAB (s : State) : Out := aluOperand .sbc (.reg .b) s

/-- `SBC A,C` (R159). -/
def execSbcAC (s : State) : Out := aluOperand .sbc (.reg .c) s

/-- `SBC A,D` (R159). -/
def execSbcAD (s : State) : Out := aluOperand .sbc (.reg .d) s

/-- `SBC A,E` (R159). -/
def execSbcAE (s : State) : Out := aluOperand .sbc (.reg .e) s

/-- `SBC A,H` (R159). -/
def execSbcAH (s : State) : Out := aluOperand .sbc (.reg .h) s

/-- `SBC A,L` (R159). -/
def execSbcAL (s : State) : Out := aluOperand .sbc (.reg .l) s

/-- `SBC A,(HL)` (R160). -/
def execSbcAAtHl (s : State) : Out := aluOperand .sbc .atHl s

/-- `SBC A,A` (R159). -/
def execSbcAA (s : State) : Out := aluOperand .sbc (.reg .a) s

/-- `AND B` (R162). -/
def execAndB (s : State) : Out := aluOperand .and (.reg .b) s

/-- `AND C` (R162). -/
def execAndC (s : State) : Out := aluOperand .and (.reg .c) s

/-- `AND D` (R162). -/
def execAndD (s : State) : Out := aluOperand .and (.reg .d) s

/-- `AND E` (R162). -/
def execAndE (s : State) : Out := aluOperand .and (.reg .e) s

/-- `AND H` (R162). -/
def execAndH (s : State) : Out := aluOperand .and (.reg .h) s

/-- `AND L` (R162). -/
def execAndL (s : State) : Out := aluOperand .and (.reg .l) s

/-- `AND (HL)` (R163). -/
def execAndAtHl (s : State) : Out := aluOperand .and .atHl s

/-- `AND A` (R162). -/
def execAndA (s : State) : Out := aluOperand .and (.reg .a) s

/-- `XOR B` (R165). -/
def execXorB (s : State) : Out := aluOperand .xor (.reg .b) s

/-- `XOR C` (R165). -/
def execXorC (s : State) : Out := aluOperand .xor (.reg .c) s

/-- `XOR D` (R165). -/
def execXorD (s : State) : Out := aluOperand .xor (.reg .d) s

/-- `XOR E` (R165). -/
def execXorE (s : State) : Out := aluOperand .xor (.reg .e) s

/-- `XOR H` (R165). -/
def execXorH (s : State) : Out := aluOperand .xor (.reg .h) s

/-- `XOR L` (R165). -/
def execXorL (s : State) : Out := aluOperand .xor (.reg .l) s

/-- `XOR (HL)` (R166). -/
def execXorAtHl (s : State) : Out := aluOperand .xor .atHl s

/-- `XOR A` (R165). -/
def execXorA (s : State) : Out := aluOperand .xor (.reg .a) s

/-- `OR B` (R168). -/
def execOrB (s : State) : Out := aluOperand .or (.reg .b) s

/-- `OR C` (R168). -/
def execOrC (s : State) : Out := aluOperand .or (.reg .c) s

/-- `OR D` (R168). -/
def execOrD (s : State) : Out := aluOperand .or (.reg .d) s

/-- `OR E` (R168). -/
def execOrE (s : State) : Out := aluOperand .or (.reg .e) s

/-- `OR H` (R168). -/
def execOrH (s : State) : Out := aluOperand .or (.reg .h) s

/-- `OR L` (R168). -/
def execOrL (s : State) : Out := aluOperand .or (.reg .l) s

/-- `OR (HL)` (R169). -/
def execOrAtHl (s : State) : Out := aluOperand .or .atHl s

/-- `OR A` (R168). -/
def execOrA (s : State) : Out := aluOperand .or (.reg .a) s

/-- `CP B` (R171). -/
def execCpB (s : State) : Out := aluOperand .cp (.reg .b) s

/-- `CP C` (R171). -/
def execCpC (s : State) : Out := aluOperand .cp (.reg .c) s

/-- `CP D` (R171). -/
def execCpD (s : State) : Out := aluOperand .cp (.reg .d) s

/-- `CP E` (R171). -/
def execCpE (s : State) : Out := aluOperand .cp (.reg .e) s

/-- `CP H` (R171). -/
def execCpH (s : State) : Out := aluOperand .cp (.reg .h) s

/-- `CP L` (R171). -/
def execCpL (s : State) : Out := aluOperand .cp (.reg .l) s

/-- `CP (HL)` (R172). -/
def execCpAtHl (s : State) : Out := aluOperand .cp .atHl s

/-- `CP A` (R171). -/
def execCpA (s : State) : Out := aluOperand .cp (.reg .a) s

/-- `ADD A,d8` (R152). -/
def execAddAD8 (d8 : Byte) (s : State) : Out := aluImmediate .add d8 s

/-- `ADC A,d8` (R155). -/
def execAdcAD8 (d8 : Byte) (s : State) : Out := aluImmediate .adc d8 s

/-- `SUB d8` (R158). -/
def execSubD8 (d8 : Byte) (s : State) : Out := aluImmediate .sub d8 s

/-- `SBC A,d8` (R161). -/
def execSbcAD8 (d8 : Byte) (s : State) : Out := aluImmediate .sbc d8 s

/-- `AND d8` (R164). -/
def execAndD8 (d8 : Byte) (s : State) : Out := aluImmediate .and d8 s

/-- `XOR d8` (R167). -/
def execXorD8 (d8 : Byte) (s : State) : Out := aluImmediate .xor d8 s

/-- `OR d8` (R170). -/
def execOrD8 (d8 : Byte) (s : State) : Out := aluImmediate .or d8 s

/-- `CP d8` (R173). -/
def execCpD8 (d8 : Byte) (s : State) : Out := aluImmediate .cp d8 s

/-- `INC B` (R180). -/
def execIncB (s : State) : Out := incOperand (.reg .b) s

/-- `INC C` (R180). -/
def execIncC (s : State) : Out := incOperand (.reg .c) s

/-- `INC D` (R180). -/
def execIncD (s : State) : Out := incOperand (.reg .d) s

/-- `INC E` (R180). -/
def execIncE (s : State) : Out := incOperand (.reg .e) s

/-- `INC H` (R180). -/
def execIncH (s : State) : Out := incOperand (.reg .h) s

/-- `INC L` (R180). -/
def execIncL (s : State) : Out := incOperand (.reg .l) s

/-- `INC (HL)` (R181). -/
def execIncAtHl (s : State) : Out := incOperand .atHl s

/-- `INC A` (R180). -/
def execIncA (s : State) : Out := incOperand (.reg .a) s

/-- `DEC B` (R182). -/
def execDecB (s : State) : Out := decOperand (.reg .b) s

/-- `DEC C` (R182). -/
def execDecC (s : State) : Out := decOperand (.reg .c) s

/-- `DEC D` (R182). -/
def execDecD (s : State) : Out := decOperand (.reg .d) s

/-- `DEC E` (R182). -/
def execDecE (s : State) : Out := decOperand (.reg .e) s

/-- `DEC H` (R182). -/
def execDecH (s : State) : Out := decOperand (.reg .h) s

/-- `DEC L` (R182). -/
def execDecL (s : State) : Out := decOperand (.reg .l) s

/-- `DEC (HL)` (R183). -/
def execDecAtHl (s : State) : Out := decOperand .atHl s

/-- `DEC A` (R182). -/
def execDecA (s : State) : Out := decOperand (.reg .a) s

/-- `DAA` (R185). -/
def execDaa (s : State) : Out := done 1 (let out := daa s.a s.f; { s with a := out.value, f := out.flags })

/-- `CPL` (R186). -/
def execCpl (s : State) : Out := done 1 { s with a := s.a ^^^ 0xFF, f := { s.f with n := true, h := true } }

/-- `SCF` (R187). -/
def execScf (s : State) : Out := done 1 { s with f := { s.f with n := false, h := false, c := true } }

/-- `CCF` (R188). -/
def execCcf (s : State) : Out := done 1 { s with f := { s.f with n := false, h := false, c := !s.f.c } }

end Sys2Proof.Machine
end

