-- ==== Sys2Proof/Machine/BitOps.lean ====
section
/-! DEFINITION. BIT, RES and SET on a register or (HL) (42_rotate_shift_bit.md, R241 to R246). -/

namespace Sys2Proof.Machine

/-! ### Shared operations -/

/-- `BIT b,r` and `BIT b,(HL)` (R241, R242): one read, no write, C unchanged. -/
def bitOperand (b : BitNo) (o : Opnd8) (s : State) : Out :=
  done (opndCost o 2 3) { s.afterSrc8 o with f := bitFlags (s.src8 o) (bitIndex b) s.f }

/-- `RES b,r` and `RES b,(HL)` (R243, R244): `v & ~(1 << b)`, no flag written. -/
def resOperand (b : BitNo) (o : Opnd8) (s : State) : Out :=
  done (opndCost o 2 4) ((s.afterSrc8 o).dst8 o (s.src8 o &&& ~~~ bitMask (bitIndex b)))

/-- `SET b,r` and `SET b,(HL)` (R245, R246): `v | (1 << b)`, no flag written. -/
def setOperand (b : BitNo) (o : Opnd8) (s : State) : Out :=
  done (opndCost o 2 4) ((s.afterSrc8 o).dst8 o (s.src8 o ||| bitMask (bitIndex b)))

/-! ### One meaning per instruction -/

/-- `BIT 0,B` (R241). -/
def execBit0B (s : State) : Out := bitOperand .b0 (.reg .b) s

/-- `BIT 0,C` (R241). -/
def execBit0C (s : State) : Out := bitOperand .b0 (.reg .c) s

/-- `BIT 0,D` (R241). -/
def execBit0D (s : State) : Out := bitOperand .b0 (.reg .d) s

/-- `BIT 0,E` (R241). -/
def execBit0E (s : State) : Out := bitOperand .b0 (.reg .e) s

/-- `BIT 0,H` (R241). -/
def execBit0H (s : State) : Out := bitOperand .b0 (.reg .h) s

/-- `BIT 0,L` (R241). -/
def execBit0L (s : State) : Out := bitOperand .b0 (.reg .l) s

/-- `BIT 0,(HL)` (R242). -/
def execBit0AtHl (s : State) : Out := bitOperand .b0 .atHl s

/-- `BIT 0,A` (R241). -/
def execBit0A (s : State) : Out := bitOperand .b0 (.reg .a) s

/-- `BIT 1,B` (R241). -/
def execBit1B (s : State) : Out := bitOperand .b1 (.reg .b) s

/-- `BIT 1,C` (R241). -/
def execBit1C (s : State) : Out := bitOperand .b1 (.reg .c) s

/-- `BIT 1,D` (R241). -/
def execBit1D (s : State) : Out := bitOperand .b1 (.reg .d) s

/-- `BIT 1,E` (R241). -/
def execBit1E (s : State) : Out := bitOperand .b1 (.reg .e) s

/-- `BIT 1,H` (R241). -/
def execBit1H (s : State) : Out := bitOperand .b1 (.reg .h) s

/-- `BIT 1,L` (R241). -/
def execBit1L (s : State) : Out := bitOperand .b1 (.reg .l) s

/-- `BIT 1,(HL)` (R242). -/
def execBit1AtHl (s : State) : Out := bitOperand .b1 .atHl s

/-- `BIT 1,A` (R241). -/
def execBit1A (s : State) : Out := bitOperand .b1 (.reg .a) s

/-- `BIT 2,B` (R241). -/
def execBit2B (s : State) : Out := bitOperand .b2 (.reg .b) s

/-- `BIT 2,C` (R241). -/
def execBit2C (s : State) : Out := bitOperand .b2 (.reg .c) s

/-- `BIT 2,D` (R241). -/
def execBit2D (s : State) : Out := bitOperand .b2 (.reg .d) s

/-- `BIT 2,E` (R241). -/
def execBit2E (s : State) : Out := bitOperand .b2 (.reg .e) s

/-- `BIT 2,H` (R241). -/
def execBit2H (s : State) : Out := bitOperand .b2 (.reg .h) s

/-- `BIT 2,L` (R241). -/
def execBit2L (s : State) : Out := bitOperand .b2 (.reg .l) s

/-- `BIT 2,(HL)` (R242). -/
def execBit2AtHl (s : State) : Out := bitOperand .b2 .atHl s

/-- `BIT 2,A` (R241). -/
def execBit2A (s : State) : Out := bitOperand .b2 (.reg .a) s

/-- `BIT 3,B` (R241). -/
def execBit3B (s : State) : Out := bitOperand .b3 (.reg .b) s

/-- `BIT 3,C` (R241). -/
def execBit3C (s : State) : Out := bitOperand .b3 (.reg .c) s

/-- `BIT 3,D` (R241). -/
def execBit3D (s : State) : Out := bitOperand .b3 (.reg .d) s

/-- `BIT 3,E` (R241). -/
def execBit3E (s : State) : Out := bitOperand .b3 (.reg .e) s

/-- `BIT 3,H` (R241). -/
def execBit3H (s : State) : Out := bitOperand .b3 (.reg .h) s

/-- `BIT 3,L` (R241). -/
def execBit3L (s : State) : Out := bitOperand .b3 (.reg .l) s

/-- `BIT 3,(HL)` (R242). -/
def execBit3AtHl (s : State) : Out := bitOperand .b3 .atHl s

/-- `BIT 3,A` (R241). -/
def execBit3A (s : State) : Out := bitOperand .b3 (.reg .a) s

/-- `BIT 4,B` (R241). -/
def execBit4B (s : State) : Out := bitOperand .b4 (.reg .b) s

/-- `BIT 4,C` (R241). -/
def execBit4C (s : State) : Out := bitOperand .b4 (.reg .c) s

/-- `BIT 4,D` (R241). -/
def execBit4D (s : State) : Out := bitOperand .b4 (.reg .d) s

/-- `BIT 4,E` (R241). -/
def execBit4E (s : State) : Out := bitOperand .b4 (.reg .e) s

/-- `BIT 4,H` (R241). -/
def execBit4H (s : State) : Out := bitOperand .b4 (.reg .h) s

/-- `BIT 4,L` (R241). -/
def execBit4L (s : State) : Out := bitOperand .b4 (.reg .l) s

/-- `BIT 4,(HL)` (R242). -/
def execBit4AtHl (s : State) : Out := bitOperand .b4 .atHl s

/-- `BIT 4,A` (R241). -/
def execBit4A (s : State) : Out := bitOperand .b4 (.reg .a) s

/-- `BIT 5,B` (R241). -/
def execBit5B (s : State) : Out := bitOperand .b5 (.reg .b) s

/-- `BIT 5,C` (R241). -/
def execBit5C (s : State) : Out := bitOperand .b5 (.reg .c) s

/-- `BIT 5,D` (R241). -/
def execBit5D (s : State) : Out := bitOperand .b5 (.reg .d) s

/-- `BIT 5,E` (R241). -/
def execBit5E (s : State) : Out := bitOperand .b5 (.reg .e) s

/-- `BIT 5,H` (R241). -/
def execBit5H (s : State) : Out := bitOperand .b5 (.reg .h) s

/-- `BIT 5,L` (R241). -/
def execBit5L (s : State) : Out := bitOperand .b5 (.reg .l) s

/-- `BIT 5,(HL)` (R242). -/
def execBit5AtHl (s : State) : Out := bitOperand .b5 .atHl s

/-- `BIT 5,A` (R241). -/
def execBit5A (s : State) : Out := bitOperand .b5 (.reg .a) s

/-- `BIT 6,B` (R241). -/
def execBit6B (s : State) : Out := bitOperand .b6 (.reg .b) s

/-- `BIT 6,C` (R241). -/
def execBit6C (s : State) : Out := bitOperand .b6 (.reg .c) s

/-- `BIT 6,D` (R241). -/
def execBit6D (s : State) : Out := bitOperand .b6 (.reg .d) s

/-- `BIT 6,E` (R241). -/
def execBit6E (s : State) : Out := bitOperand .b6 (.reg .e) s

/-- `BIT 6,H` (R241). -/
def execBit6H (s : State) : Out := bitOperand .b6 (.reg .h) s

/-- `BIT 6,L` (R241). -/
def execBit6L (s : State) : Out := bitOperand .b6 (.reg .l) s

/-- `BIT 6,(HL)` (R242). -/
def execBit6AtHl (s : State) : Out := bitOperand .b6 .atHl s

/-- `BIT 6,A` (R241). -/
def execBit6A (s : State) : Out := bitOperand .b6 (.reg .a) s

/-- `BIT 7,B` (R241). -/
def execBit7B (s : State) : Out := bitOperand .b7 (.reg .b) s

/-- `BIT 7,C` (R241). -/
def execBit7C (s : State) : Out := bitOperand .b7 (.reg .c) s

/-- `BIT 7,D` (R241). -/
def execBit7D (s : State) : Out := bitOperand .b7 (.reg .d) s

/-- `BIT 7,E` (R241). -/
def execBit7E (s : State) : Out := bitOperand .b7 (.reg .e) s

/-- `BIT 7,H` (R241). -/
def execBit7H (s : State) : Out := bitOperand .b7 (.reg .h) s

/-- `BIT 7,L` (R241). -/
def execBit7L (s : State) : Out := bitOperand .b7 (.reg .l) s

/-- `BIT 7,(HL)` (R242). -/
def execBit7AtHl (s : State) : Out := bitOperand .b7 .atHl s

/-- `BIT 7,A` (R241). -/
def execBit7A (s : State) : Out := bitOperand .b7 (.reg .a) s

/-- `RES 0,B` (R243). -/
def execRes0B (s : State) : Out := resOperand .b0 (.reg .b) s

/-- `RES 0,C` (R243). -/
def execRes0C (s : State) : Out := resOperand .b0 (.reg .c) s

/-- `RES 0,D` (R243). -/
def execRes0D (s : State) : Out := resOperand .b0 (.reg .d) s

/-- `RES 0,E` (R243). -/
def execRes0E (s : State) : Out := resOperand .b0 (.reg .e) s

/-- `RES 0,H` (R243). -/
def execRes0H (s : State) : Out := resOperand .b0 (.reg .h) s

/-- `RES 0,L` (R243). -/
def execRes0L (s : State) : Out := resOperand .b0 (.reg .l) s

/-- `RES 0,(HL)` (R244). -/
def execRes0AtHl (s : State) : Out := resOperand .b0 .atHl s

/-- `RES 0,A` (R243). -/
def execRes0A (s : State) : Out := resOperand .b0 (.reg .a) s

/-- `RES 1,B` (R243). -/
def execRes1B (s : State) : Out := resOperand .b1 (.reg .b) s

/-- `RES 1,C` (R243). -/
def execRes1C (s : State) : Out := resOperand .b1 (.reg .c) s

/-- `RES 1,D` (R243). -/
def execRes1D (s : State) : Out := resOperand .b1 (.reg .d) s

/-- `RES 1,E` (R243). -/
def execRes1E (s : State) : Out := resOperand .b1 (.reg .e) s

/-- `RES 1,H` (R243). -/
def execRes1H (s : State) : Out := resOperand .b1 (.reg .h) s

/-- `RES 1,L` (R243). -/
def execRes1L (s : State) : Out := resOperand .b1 (.reg .l) s

/-- `RES 1,(HL)` (R244). -/
def execRes1AtHl (s : State) : Out := resOperand .b1 .atHl s

/-- `RES 1,A` (R243). -/
def execRes1A (s : State) : Out := resOperand .b1 (.reg .a) s

/-- `RES 2,B` (R243). -/
def execRes2B (s : State) : Out := resOperand .b2 (.reg .b) s

/-- `RES 2,C` (R243). -/
def execRes2C (s : State) : Out := resOperand .b2 (.reg .c) s

/-- `RES 2,D` (R243). -/
def execRes2D (s : State) : Out := resOperand .b2 (.reg .d) s

/-- `RES 2,E` (R243). -/
def execRes2E (s : State) : Out := resOperand .b2 (.reg .e) s

/-- `RES 2,H` (R243). -/
def execRes2H (s : State) : Out := resOperand .b2 (.reg .h) s

/-- `RES 2,L` (R243). -/
def execRes2L (s : State) : Out := resOperand .b2 (.reg .l) s

/-- `RES 2,(HL)` (R244). -/
def execRes2AtHl (s : State) : Out := resOperand .b2 .atHl s

/-- `RES 2,A` (R243). -/
def execRes2A (s : State) : Out := resOperand .b2 (.reg .a) s

/-- `RES 3,B` (R243). -/
def execRes3B (s : State) : Out := resOperand .b3 (.reg .b) s

/-- `RES 3,C` (R243). -/
def execRes3C (s : State) : Out := resOperand .b3 (.reg .c) s

/-- `RES 3,D` (R243). -/
def execRes3D (s : State) : Out := resOperand .b3 (.reg .d) s

/-- `RES 3,E` (R243). -/
def execRes3E (s : State) : Out := resOperand .b3 (.reg .e) s

/-- `RES 3,H` (R243). -/
def execRes3H (s : State) : Out := resOperand .b3 (.reg .h) s

/-- `RES 3,L` (R243). -/
def execRes3L (s : State) : Out := resOperand .b3 (.reg .l) s

/-- `RES 3,(HL)` (R244). -/
def execRes3AtHl (s : State) : Out := resOperand .b3 .atHl s

/-- `RES 3,A` (R243). -/
def execRes3A (s : State) : Out := resOperand .b3 (.reg .a) s

/-- `RES 4,B` (R243). -/
def execRes4B (s : State) : Out := resOperand .b4 (.reg .b) s

/-- `RES 4,C` (R243). -/
def execRes4C (s : State) : Out := resOperand .b4 (.reg .c) s

/-- `RES 4,D` (R243). -/
def execRes4D (s : State) : Out := resOperand .b4 (.reg .d) s

/-- `RES 4,E` (R243). -/
def execRes4E (s : State) : Out := resOperand .b4 (.reg .e) s

/-- `RES 4,H` (R243). -/
def execRes4H (s : State) : Out := resOperand .b4 (.reg .h) s

/-- `RES 4,L` (R243). -/
def execRes4L (s : State) : Out := resOperand .b4 (.reg .l) s

/-- `RES 4,(HL)` (R244). -/
def execRes4AtHl (s : State) : Out := resOperand .b4 .atHl s

/-- `RES 4,A` (R243). -/
def execRes4A (s : State) : Out := resOperand .b4 (.reg .a) s

/-- `RES 5,B` (R243). -/
def execRes5B (s : State) : Out := resOperand .b5 (.reg .b) s

/-- `RES 5,C` (R243). -/
def execRes5C (s : State) : Out := resOperand .b5 (.reg .c) s

/-- `RES 5,D` (R243). -/
def execRes5D (s : State) : Out := resOperand .b5 (.reg .d) s

/-- `RES 5,E` (R243). -/
def execRes5E (s : State) : Out := resOperand .b5 (.reg .e) s

/-- `RES 5,H` (R243). -/
def execRes5H (s : State) : Out := resOperand .b5 (.reg .h) s

/-- `RES 5,L` (R243). -/
def execRes5L (s : State) : Out := resOperand .b5 (.reg .l) s

/-- `RES 5,(HL)` (R244). -/
def execRes5AtHl (s : State) : Out := resOperand .b5 .atHl s

/-- `RES 5,A` (R243). -/
def execRes5A (s : State) : Out := resOperand .b5 (.reg .a) s

/-- `RES 6,B` (R243). -/
def execRes6B (s : State) : Out := resOperand .b6 (.reg .b) s

/-- `RES 6,C` (R243). -/
def execRes6C (s : State) : Out := resOperand .b6 (.reg .c) s

/-- `RES 6,D` (R243). -/
def execRes6D (s : State) : Out := resOperand .b6 (.reg .d) s

/-- `RES 6,E` (R243). -/
def execRes6E (s : State) : Out := resOperand .b6 (.reg .e) s

/-- `RES 6,H` (R243). -/
def execRes6H (s : State) : Out := resOperand .b6 (.reg .h) s

/-- `RES 6,L` (R243). -/
def execRes6L (s : State) : Out := resOperand .b6 (.reg .l) s

/-- `RES 6,(HL)` (R244). -/
def execRes6AtHl (s : State) : Out := resOperand .b6 .atHl s

/-- `RES 6,A` (R243). -/
def execRes6A (s : State) : Out := resOperand .b6 (.reg .a) s

/-- `RES 7,B` (R243). -/
def execRes7B (s : State) : Out := resOperand .b7 (.reg .b) s

/-- `RES 7,C` (R243). -/
def execRes7C (s : State) : Out := resOperand .b7 (.reg .c) s

/-- `RES 7,D` (R243). -/
def execRes7D (s : State) : Out := resOperand .b7 (.reg .d) s

/-- `RES 7,E` (R243). -/
def execRes7E (s : State) : Out := resOperand .b7 (.reg .e) s

/-- `RES 7,H` (R243). -/
def execRes7H (s : State) : Out := resOperand .b7 (.reg .h) s

/-- `RES 7,L` (R243). -/
def execRes7L (s : State) : Out := resOperand .b7 (.reg .l) s

/-- `RES 7,(HL)` (R244). -/
def execRes7AtHl (s : State) : Out := resOperand .b7 .atHl s

/-- `RES 7,A` (R243). -/
def execRes7A (s : State) : Out := resOperand .b7 (.reg .a) s

/-- `SET 0,B` (R245). -/
def execSet0B (s : State) : Out := setOperand .b0 (.reg .b) s

/-- `SET 0,C` (R245). -/
def execSet0C (s : State) : Out := setOperand .b0 (.reg .c) s

/-- `SET 0,D` (R245). -/
def execSet0D (s : State) : Out := setOperand .b0 (.reg .d) s

/-- `SET 0,E` (R245). -/
def execSet0E (s : State) : Out := setOperand .b0 (.reg .e) s

/-- `SET 0,H` (R245). -/
def execSet0H (s : State) : Out := setOperand .b0 (.reg .h) s

/-- `SET 0,L` (R245). -/
def execSet0L (s : State) : Out := setOperand .b0 (.reg .l) s

/-- `SET 0,(HL)` (R246). -/
def execSet0AtHl (s : State) : Out := setOperand .b0 .atHl s

/-- `SET 0,A` (R245). -/
def execSet0A (s : State) : Out := setOperand .b0 (.reg .a) s

/-- `SET 1,B` (R245). -/
def execSet1B (s : State) : Out := setOperand .b1 (.reg .b) s

/-- `SET 1,C` (R245). -/
def execSet1C (s : State) : Out := setOperand .b1 (.reg .c) s

/-- `SET 1,D` (R245). -/
def execSet1D (s : State) : Out := setOperand .b1 (.reg .d) s

/-- `SET 1,E` (R245). -/
def execSet1E (s : State) : Out := setOperand .b1 (.reg .e) s

/-- `SET 1,H` (R245). -/
def execSet1H (s : State) : Out := setOperand .b1 (.reg .h) s

/-- `SET 1,L` (R245). -/
def execSet1L (s : State) : Out := setOperand .b1 (.reg .l) s

/-- `SET 1,(HL)` (R246). -/
def execSet1AtHl (s : State) : Out := setOperand .b1 .atHl s

/-- `SET 1,A` (R245). -/
def execSet1A (s : State) : Out := setOperand .b1 (.reg .a) s

/-- `SET 2,B` (R245). -/
def execSet2B (s : State) : Out := setOperand .b2 (.reg .b) s

/-- `SET 2,C` (R245). -/
def execSet2C (s : State) : Out := setOperand .b2 (.reg .c) s

/-- `SET 2,D` (R245). -/
def execSet2D (s : State) : Out := setOperand .b2 (.reg .d) s

/-- `SET 2,E` (R245). -/
def execSet2E (s : State) : Out := setOperand .b2 (.reg .e) s

/-- `SET 2,H` (R245). -/
def execSet2H (s : State) : Out := setOperand .b2 (.reg .h) s

/-- `SET 2,L` (R245). -/
def execSet2L (s : State) : Out := setOperand .b2 (.reg .l) s

/-- `SET 2,(HL)` (R246). -/
def execSet2AtHl (s : State) : Out := setOperand .b2 .atHl s

/-- `SET 2,A` (R245). -/
def execSet2A (s : State) : Out := setOperand .b2 (.reg .a) s

/-- `SET 3,B` (R245). -/
def execSet3B (s : State) : Out := setOperand .b3 (.reg .b) s

/-- `SET 3,C` (R245). -/
def execSet3C (s : State) : Out := setOperand .b3 (.reg .c) s

/-- `SET 3,D` (R245). -/
def execSet3D (s : State) : Out := setOperand .b3 (.reg .d) s

/-- `SET 3,E` (R245). -/
def execSet3E (s : State) : Out := setOperand .b3 (.reg .e) s

/-- `SET 3,H` (R245). -/
def execSet3H (s : State) : Out := setOperand .b3 (.reg .h) s

/-- `SET 3,L` (R245). -/
def execSet3L (s : State) : Out := setOperand .b3 (.reg .l) s

/-- `SET 3,(HL)` (R246). -/
def execSet3AtHl (s : State) : Out := setOperand .b3 .atHl s

/-- `SET 3,A` (R245). -/
def execSet3A (s : State) : Out := setOperand .b3 (.reg .a) s

/-- `SET 4,B` (R245). -/
def execSet4B (s : State) : Out := setOperand .b4 (.reg .b) s

/-- `SET 4,C` (R245). -/
def execSet4C (s : State) : Out := setOperand .b4 (.reg .c) s

/-- `SET 4,D` (R245). -/
def execSet4D (s : State) : Out := setOperand .b4 (.reg .d) s

/-- `SET 4,E` (R245). -/
def execSet4E (s : State) : Out := setOperand .b4 (.reg .e) s

/-- `SET 4,H` (R245). -/
def execSet4H (s : State) : Out := setOperand .b4 (.reg .h) s

/-- `SET 4,L` (R245). -/
def execSet4L (s : State) : Out := setOperand .b4 (.reg .l) s

/-- `SET 4,(HL)` (R246). -/
def execSet4AtHl (s : State) : Out := setOperand .b4 .atHl s

/-- `SET 4,A` (R245). -/
def execSet4A (s : State) : Out := setOperand .b4 (.reg .a) s

/-- `SET 5,B` (R245). -/
def execSet5B (s : State) : Out := setOperand .b5 (.reg .b) s

/-- `SET 5,C` (R245). -/
def execSet5C (s : State) : Out := setOperand .b5 (.reg .c) s

/-- `SET 5,D` (R245). -/
def execSet5D (s : State) : Out := setOperand .b5 (.reg .d) s

/-- `SET 5,E` (R245). -/
def execSet5E (s : State) : Out := setOperand .b5 (.reg .e) s

/-- `SET 5,H` (R245). -/
def execSet5H (s : State) : Out := setOperand .b5 (.reg .h) s

/-- `SET 5,L` (R245). -/
def execSet5L (s : State) : Out := setOperand .b5 (.reg .l) s

/-- `SET 5,(HL)` (R246). -/
def execSet5AtHl (s : State) : Out := setOperand .b5 .atHl s

/-- `SET 5,A` (R245). -/
def execSet5A (s : State) : Out := setOperand .b5 (.reg .a) s

/-- `SET 6,B` (R245). -/
def execSet6B (s : State) : Out := setOperand .b6 (.reg .b) s

/-- `SET 6,C` (R245). -/
def execSet6C (s : State) : Out := setOperand .b6 (.reg .c) s

/-- `SET 6,D` (R245). -/
def execSet6D (s : State) : Out := setOperand .b6 (.reg .d) s

/-- `SET 6,E` (R245). -/
def execSet6E (s : State) : Out := setOperand .b6 (.reg .e) s

/-- `SET 6,H` (R245). -/
def execSet6H (s : State) : Out := setOperand .b6 (.reg .h) s

/-- `SET 6,L` (R245). -/
def execSet6L (s : State) : Out := setOperand .b6 (.reg .l) s

/-- `SET 6,(HL)` (R246). -/
def execSet6AtHl (s : State) : Out := setOperand .b6 .atHl s

/-- `SET 6,A` (R245). -/
def execSet6A (s : State) : Out := setOperand .b6 (.reg .a) s

/-- `SET 7,B` (R245). -/
def execSet7B (s : State) : Out := setOperand .b7 (.reg .b) s

/-- `SET 7,C` (R245). -/
def execSet7C (s : State) : Out := setOperand .b7 (.reg .c) s

/-- `SET 7,D` (R245). -/
def execSet7D (s : State) : Out := setOperand .b7 (.reg .d) s

/-- `SET 7,E` (R245). -/
def execSet7E (s : State) : Out := setOperand .b7 (.reg .e) s

/-- `SET 7,H` (R245). -/
def execSet7H (s : State) : Out := setOperand .b7 (.reg .h) s

/-- `SET 7,L` (R245). -/
def execSet7L (s : State) : Out := setOperand .b7 (.reg .l) s

/-- `SET 7,(HL)` (R246). -/
def execSet7AtHl (s : State) : Out := setOperand .b7 .atHl s

/-- `SET 7,A` (R245). -/
def execSet7A (s : State) : Out := setOperand .b7 (.reg .a) s

end Sys2Proof.Machine
end

