-- ==== Sys2Proof/Machine/ControlFlow.lean ====
section
/-! DEFINITION. Control flow and the stack (44_control_flow.md). `s.pc` is the address after the whole instruction (R33). -/

namespace Sys2Proof.Machine

/-! ### Shared operations -/

/-- `PUSH rr` (R303). -/
def pushPair (p : Pair2) (s : State) : Out := done 4 (s.push16 (s.pair2 p))

/-- `POP rr` and `POP AF` (R304, R305). -/
def popPair (p : Pair2) (s : State) : Out := done 3 (s.afterPop.setPair2 p s.popValue)

/-- `JP cc,a16` (R307). -/
def jumpIf (cc : Cond) (target : Word) (s : State) : Out :=
  if condHolds cc s.f then done 4 { s with pc := target } else done 3 s

/-- `JR cc,r8` (R310). -/
def jumpRelativeIf (cc : Cond) (r8 : Byte) (s : State) : Out :=
  if condHolds cc s.f then done 3 { s with pc := s.pc + sext16 r8 } else done 2 s

/-- `CALL cc,a16` (R312). -/
def callIf (cc : Cond) (target : Word) (s : State) : Out :=
  if condHolds cc s.f then done 6 { s.push16 s.pc with pc := target } else done 3 s

/-- `RET cc` (R314). -/
def returnIf (cc : Cond) (s : State) : Out :=
  if condHolds cc s.f then done 5 { s.afterPop with pc := s.popValue } else done 2 s

/-- `RST t` (R316). -/
def restart (t : RstVec) (s : State) : Out := done 4 { s.push16 s.pc with pc := rstTarget t }

/-! ### One meaning per instruction -/

/-- `PUSH BC` (R303). -/
def execPushBc (s : State) : Out := pushPair .bc s

/-- `PUSH DE` (R303). -/
def execPushDe (s : State) : Out := pushPair .de s

/-- `PUSH HL` (R303). -/
def execPushHl (s : State) : Out := pushPair .hl s

/-- `PUSH AF` (R303). -/
def execPushAf (s : State) : Out := pushPair .af s

/-- `POP BC` (R304). -/
def execPopBc (s : State) : Out := popPair .bc s

/-- `POP DE` (R304). -/
def execPopDe (s : State) : Out := popPair .de s

/-- `POP HL` (R304). -/
def execPopHl (s : State) : Out := popPair .hl s

/-- `POP AF` (R305). -/
def execPopAf (s : State) : Out := popPair .af s

/-- `JP a16` (R306). -/
def execJpA16 (a16 : Word) (s : State) : Out := done 4 { s with pc := a16 }

/-- `JP NZ,a16` (R307). -/
def execJpNzA16 (a16 : Word) (s : State) : Out := jumpIf .nz a16 s

/-- `JP Z,a16` (R307). -/
def execJpZA16 (a16 : Word) (s : State) : Out := jumpIf .z a16 s

/-- `JP NC,a16` (R307). -/
def execJpNcA16 (a16 : Word) (s : State) : Out := jumpIf .nc a16 s

/-- `JP C,a16` (R307). -/
def execJpCA16 (a16 : Word) (s : State) : Out := jumpIf .c a16 s

/-- `JP HL` (R308). -/
def execJpHl (s : State) : Out := done 1 { s with pc := s.hl }

/-- `JR r8` (R309). -/
def execJrR8 (r8 : Byte) (s : State) : Out := done 3 { s with pc := s.pc + sext16 r8 }

/-- `JR NZ,r8` (R310). -/
def execJrNzR8 (r8 : Byte) (s : State) : Out := jumpRelativeIf .nz r8 s

/-- `JR Z,r8` (R310). -/
def execJrZR8 (r8 : Byte) (s : State) : Out := jumpRelativeIf .z r8 s

/-- `JR NC,r8` (R310). -/
def execJrNcR8 (r8 : Byte) (s : State) : Out := jumpRelativeIf .nc r8 s

/-- `JR C,r8` (R310). -/
def execJrCR8 (r8 : Byte) (s : State) : Out := jumpRelativeIf .c r8 s

/-- `CALL a16` (R311). -/
def execCallA16 (a16 : Word) (s : State) : Out := done 6 { s.push16 s.pc with pc := a16 }

/-- `CALL NZ,a16` (R312). -/
def execCallNzA16 (a16 : Word) (s : State) : Out := callIf .nz a16 s

/-- `CALL Z,a16` (R312). -/
def execCallZA16 (a16 : Word) (s : State) : Out := callIf .z a16 s

/-- `CALL NC,a16` (R312). -/
def execCallNcA16 (a16 : Word) (s : State) : Out := callIf .nc a16 s

/-- `CALL C,a16` (R312). -/
def execCallCA16 (a16 : Word) (s : State) : Out := callIf .c a16 s

/-- `RET` (R313). -/
def execRet (s : State) : Out := done 4 { s.afterPop with pc := s.popValue }

/-- `RET NZ` (R314). -/
def execRetNz (s : State) : Out := returnIf .nz s

/-- `RET Z` (R314). -/
def execRetZ (s : State) : Out := returnIf .z s

/-- `RET NC` (R314). -/
def execRetNc (s : State) : Out := returnIf .nc s

/-- `RET C` (R314). -/
def execRetC (s : State) : Out := returnIf .c s

/-- `RETI` (R315). -/
def execReti (s : State) : Out := done 4 s.returnFromInterrupt

/-- `RST 00H` (R316). -/
def execRst00 (s : State) : Out := restart .v00 s

/-- `RST 08H` (R316). -/
def execRst08 (s : State) : Out := restart .v08 s

/-- `RST 10H` (R316). -/
def execRst10 (s : State) : Out := restart .v10 s

/-- `RST 18H` (R316). -/
def execRst18 (s : State) : Out := restart .v18 s

/-- `RST 20H` (R316). -/
def execRst20 (s : State) : Out := restart .v20 s

/-- `RST 28H` (R316). -/
def execRst28 (s : State) : Out := restart .v28 s

/-- `RST 30H` (R316). -/
def execRst30 (s : State) : Out := restart .v30 s

/-- `RST 38H` (R316). -/
def execRst38 (s : State) : Out := restart .v38 s

end Sys2Proof.Machine
end

