-- ==== Sys2Proof/Machine/Loads.lean ====
section
/-! DEFINITION. Loads and stores (43_loads.md). No load or store writes a flag. -/

namespace Sys2Proof.Machine

/-! ### Shared operations -/

/-- `LD r,r'` (R260). -/
def copyReg (dst src : Reg8) (s : State) : Out := done 1 (s.setReg8 dst (s.reg8 src))

/-- `LD r,d8` (R261). -/
def loadImmediate (dst : Reg8) (v : Byte) (s : State) : Out := done 2 (s.setReg8 dst v)

/-- `LD r,(HL)` (R262): the address is HL 'from before the write'. -/
def loadFromHl (dst : Reg8) (s : State) : Out := done 2 ((s.afterRead s.hl).setReg8 dst (s.peek s.hl))

/-- `LD (HL),r` (R263). -/
def storeAtHl (src : Reg8) (s : State) : Out := done 2 (s.write8 s.hl (s.reg8 src))

/-- The loads of A from the byte at an address, with their M-cycles (R265, R267, R269, R271). -/
def loadA (addr : Word) (n : Nat) (s : State) : Out := done n { s.afterRead addr with a := s.peek addr }

/-- The stores of A to the byte at an address, with their M-cycles (R266, R268, R270, R272). -/
def storeA (addr : Word) (n : Nat) (s : State) : Out := done n (s.write8 addr s.a)

/-! ### One meaning per instruction -/

/-- `LD B,B` (R260). -/
def execLdBB (s : State) : Out := copyReg .b .b s

/-- `LD B,C` (R260). -/
def execLdBC (s : State) : Out := copyReg .b .c s

/-- `LD B,D` (R260). -/
def execLdBD (s : State) : Out := copyReg .b .d s

/-- `LD B,E` (R260). -/
def execLdBE (s : State) : Out := copyReg .b .e s

/-- `LD B,H` (R260). -/
def execLdBH (s : State) : Out := copyReg .b .h s

/-- `LD B,L` (R260). -/
def execLdBL (s : State) : Out := copyReg .b .l s

/-- `LD B,(HL)` (R262). -/
def execLdBAtHl (s : State) : Out := loadFromHl .b s

/-- `LD B,A` (R260). -/
def execLdBA (s : State) : Out := copyReg .b .a s

/-- `LD C,B` (R260). -/
def execLdCB (s : State) : Out := copyReg .c .b s

/-- `LD C,C` (R260). -/
def execLdCC (s : State) : Out := copyReg .c .c s

/-- `LD C,D` (R260). -/
def execLdCD (s : State) : Out := copyReg .c .d s

/-- `LD C,E` (R260). -/
def execLdCE (s : State) : Out := copyReg .c .e s

/-- `LD C,H` (R260). -/
def execLdCH (s : State) : Out := copyReg .c .h s

/-- `LD C,L` (R260). -/
def execLdCL (s : State) : Out := copyReg .c .l s

/-- `LD C,(HL)` (R262). -/
def execLdCAtHl (s : State) : Out := loadFromHl .c s

/-- `LD C,A` (R260). -/
def execLdCA (s : State) : Out := copyReg .c .a s

/-- `LD D,B` (R260). -/
def execLdDB (s : State) : Out := copyReg .d .b s

/-- `LD D,C` (R260). -/
def execLdDC (s : State) : Out := copyReg .d .c s

/-- `LD D,D` (R260). -/
def execLdDD (s : State) : Out := copyReg .d .d s

/-- `LD D,E` (R260). -/
def execLdDE (s : State) : Out := copyReg .d .e s

/-- `LD D,H` (R260). -/
def execLdDH (s : State) : Out := copyReg .d .h s

/-- `LD D,L` (R260). -/
def execLdDL (s : State) : Out := copyReg .d .l s

/-- `LD D,(HL)` (R262). -/
def execLdDAtHl (s : State) : Out := loadFromHl .d s

/-- `LD D,A` (R260). -/
def execLdDA (s : State) : Out := copyReg .d .a s

/-- `LD E,B` (R260). -/
def execLdEB (s : State) : Out := copyReg .e .b s

/-- `LD E,C` (R260). -/
def execLdEC (s : State) : Out := copyReg .e .c s

/-- `LD E,D` (R260). -/
def execLdED (s : State) : Out := copyReg .e .d s

/-- `LD E,E` (R260). -/
def execLdEE (s : State) : Out := copyReg .e .e s

/-- `LD E,H` (R260). -/
def execLdEH (s : State) : Out := copyReg .e .h s

/-- `LD E,L` (R260). -/
def execLdEL (s : State) : Out := copyReg .e .l s

/-- `LD E,(HL)` (R262). -/
def execLdEAtHl (s : State) : Out := loadFromHl .e s

/-- `LD E,A` (R260). -/
def execLdEA (s : State) : Out := copyReg .e .a s

/-- `LD H,B` (R260). -/
def execLdHB (s : State) : Out := copyReg .h .b s

/-- `LD H,C` (R260). -/
def execLdHC (s : State) : Out := copyReg .h .c s

/-- `LD H,D` (R260). -/
def execLdHD (s : State) : Out := copyReg .h .d s

/-- `LD H,E` (R260). -/
def execLdHE (s : State) : Out := copyReg .h .e s

/-- `LD H,H` (R260). -/
def execLdHH (s : State) : Out := copyReg .h .h s

/-- `LD H,L` (R260). -/
def execLdHL (s : State) : Out := copyReg .h .l s

/-- `LD H,(HL)` (R262). -/
def execLdHAtHl (s : State) : Out := loadFromHl .h s

/-- `LD H,A` (R260). -/
def execLdHA (s : State) : Out := copyReg .h .a s

/-- `LD L,B` (R260). -/
def execLdLB (s : State) : Out := copyReg .l .b s

/-- `LD L,C` (R260). -/
def execLdLC (s : State) : Out := copyReg .l .c s

/-- `LD L,D` (R260). -/
def execLdLD (s : State) : Out := copyReg .l .d s

/-- `LD L,E` (R260). -/
def execLdLE (s : State) : Out := copyReg .l .e s

/-- `LD L,H` (R260). -/
def execLdLH (s : State) : Out := copyReg .l .h s

/-- `LD L,L` (R260). -/
def execLdLL (s : State) : Out := copyReg .l .l s

/-- `LD L,(HL)` (R262). -/
def execLdLAtHl (s : State) : Out := loadFromHl .l s

/-- `LD L,A` (R260). -/
def execLdLA (s : State) : Out := copyReg .l .a s

/-- `LD (HL),B` (R263). -/
def execLdAtHlB (s : State) : Out := storeAtHl .b s

/-- `LD (HL),C` (R263). -/
def execLdAtHlC (s : State) : Out := storeAtHl .c s

/-- `LD (HL),D` (R263). -/
def execLdAtHlD (s : State) : Out := storeAtHl .d s

/-- `LD (HL),E` (R263). -/
def execLdAtHlE (s : State) : Out := storeAtHl .e s

/-- `LD (HL),H` (R263). -/
def execLdAtHlH (s : State) : Out := storeAtHl .h s

/-- `LD (HL),L` (R263). -/
def execLdAtHlL (s : State) : Out := storeAtHl .l s

/-- `LD (HL),A` (R263). -/
def execLdAtHlA (s : State) : Out := storeAtHl .a s

/-- `LD A,B` (R260). -/
def execLdAB (s : State) : Out := copyReg .a .b s

/-- `LD A,C` (R260). -/
def execLdAC (s : State) : Out := copyReg .a .c s

/-- `LD A,D` (R260). -/
def execLdAD (s : State) : Out := copyReg .a .d s

/-- `LD A,E` (R260). -/
def execLdAE (s : State) : Out := copyReg .a .e s

/-- `LD A,H` (R260). -/
def execLdAH (s : State) : Out := copyReg .a .h s

/-- `LD A,L` (R260). -/
def execLdAL (s : State) : Out := copyReg .a .l s

/-- `LD A,(HL)` (R262). -/
def execLdAAtHl (s : State) : Out := loadFromHl .a s

/-- `LD A,A` (R260). -/
def execLdAA (s : State) : Out := copyReg .a .a s

/-- `LD B,d8` (R261). -/
def execLdBD8 (d8 : Byte) (s : State) : Out := loadImmediate .b d8 s

/-- `LD C,d8` (R261). -/
def execLdCD8 (d8 : Byte) (s : State) : Out := loadImmediate .c d8 s

/-- `LD D,d8` (R261). -/
def execLdDD8 (d8 : Byte) (s : State) : Out := loadImmediate .d d8 s

/-- `LD E,d8` (R261). -/
def execLdED8 (d8 : Byte) (s : State) : Out := loadImmediate .e d8 s

/-- `LD H,d8` (R261). -/
def execLdHD8 (d8 : Byte) (s : State) : Out := loadImmediate .h d8 s

/-- `LD L,d8` (R261). -/
def execLdLD8 (d8 : Byte) (s : State) : Out := loadImmediate .l d8 s

/-- `LD (HL),d8` (R264). -/
def execLdAtHlD8 (d8 : Byte) (s : State) : Out := done 3 (s.write8 s.hl d8)

/-- `LD A,d8` (R261). -/
def execLdAD8 (d8 : Byte) (s : State) : Out := loadImmediate .a d8 s

/-- `LD A,(BC)` (R265). -/
def execLdAAtBc (s : State) : Out := loadA s.bc 2 s

/-- `LD A,(DE)` (R265). -/
def execLdAAtDe (s : State) : Out := loadA s.de 2 s

/-- `LD (BC),A` (R266). -/
def execLdAtBcA (s : State) : Out := storeA s.bc 2 s

/-- `LD (DE),A` (R266). -/
def execLdAtDeA (s : State) : Out := storeA s.de 2 s

/-- `LD A,(a16)` (R267). -/
def execLdAAtA16 (a16 : Word) (s : State) : Out := loadA a16 4 s

/-- `LD (a16),A` (R268). -/
def execLdAtA16A (a16 : Word) (s : State) : Out := storeA a16 4 s

/-- `LDH A,(a8)` (R269). -/
def execLdhAAtA8 (a8 : Byte) (s : State) : Out := loadA (highPage a8) 3 s

/-- `LDH (a8),A` (R270). -/
def execLdhAtA8A (a8 : Byte) (s : State) : Out := storeA (highPage a8) 3 s

/-- `LD A,(C)` (R271). -/
def execLdAAtC (s : State) : Out := loadA (highPage s.c) 2 s

/-- `LD (C),A` (R272). -/
def execLdAtCA (s : State) : Out := storeA (highPage s.c) 2 s

/-- `LD (HL+),A` (R273). -/
def execLdAtHliA (s : State) : Out := done 2 ((s.write8 s.hl s.a).setHl (s.hl + 1))

/-- `LD A,(HL+)` (R274). -/
def execLdAAtHli (s : State) : Out := done 2 (State.setHl { s.afterRead s.hl with a := s.peek s.hl } (s.hl + 1))

/-- `LD (HL-),A` (R275). -/
def execLdAtHldA (s : State) : Out := done 2 ((s.write8 s.hl s.a).setHl (s.hl - 1))

/-- `LD A,(HL-)` (R276). -/
def execLdAAtHld (s : State) : Out := done 2 (State.setHl { s.afterRead s.hl with a := s.peek s.hl } (s.hl - 1))

/-- `LD BC,d16` (R277). -/
def execLdBcD16 (d16 : Word) (s : State) : Out := done 3 (s.setPair1 .bc d16)

/-- `LD DE,d16` (R277). -/
def execLdDeD16 (d16 : Word) (s : State) : Out := done 3 (s.setPair1 .de d16)

/-- `LD HL,d16` (R277). -/
def execLdHlD16 (d16 : Word) (s : State) : Out := done 3 (s.setPair1 .hl d16)

/-- `LD SP,d16` (R277). -/
def execLdSpD16 (d16 : Word) (s : State) : Out := done 3 (s.setPair1 .sp d16)

/-- `LD (a16),SP` (R278). -/
def execLdAtA16Sp (a16 : Word) (s : State) : Out := done 5 (s.write16 a16 s.sp)

/-- `LD SP,HL` (R279). -/
def execLdSpHl (s : State) : Out := done 2 { s with sp := s.hl }

end Sys2Proof.Machine
end

