-- ==== Sys2Proof/Machine/RotateShift.lean ====
section
/-! DEFINITION. Rotates and shifts (42_rotate_shift_bit.md): RLCA, RRCA, RLA, RRA, and the CB operations RLC to SRL. -/

namespace Sys2Proof.Machine

/-! ### Shared operations -/

/-- The accumulator rotates (R220 to R223): Z forced to 0. -/
def rotateA (op : RotOp) (s : State) : Out :=
  let out := rotate op s.a s.f.c
  done 1 { s with a := out.value, f := rotAFlags out }

/-- The CB rotates and shifts on a register or (HL) (R224 to R240). -/
def rotateOperand (op : RotOp) (o : Opnd8) (s : State) : Out :=
  let out := rotate op (s.src8 o) s.f.c
  done (opndCost o 2 4) { (s.afterSrc8 o).dst8 o out.value with f := rotFlags out }

/-! ### One meaning per instruction -/

/-- `RLCA` (R220). -/
def execRlca (s : State) : Out := rotateA .rlc s

/-- `RRCA` (R221). -/
def execRrca (s : State) : Out := rotateA .rrc s

/-- `RLA` (R222). -/
def execRla (s : State) : Out := rotateA .rl s

/-- `RRA` (R223). -/
def execRra (s : State) : Out := rotateA .rr s

/-- `RLC B` (R225). -/
def execRlcB (s : State) : Out := rotateOperand .rlc (.reg .b) s

/-- `RLC C` (R225). -/
def execRlcC (s : State) : Out := rotateOperand .rlc (.reg .c) s

/-- `RLC D` (R225). -/
def execRlcD (s : State) : Out := rotateOperand .rlc (.reg .d) s

/-- `RLC E` (R225). -/
def execRlcE (s : State) : Out := rotateOperand .rlc (.reg .e) s

/-- `RLC H` (R225). -/
def execRlcH (s : State) : Out := rotateOperand .rlc (.reg .h) s

/-- `RLC L` (R225). -/
def execRlcL (s : State) : Out := rotateOperand .rlc (.reg .l) s

/-- `RLC (HL)` (R226). -/
def execRlcAtHl (s : State) : Out := rotateOperand .rlc .atHl s

/-- `RLC A` (R225). -/
def execRlcA (s : State) : Out := rotateOperand .rlc (.reg .a) s

/-- `RRC B` (R227). -/
def execRrcB (s : State) : Out := rotateOperand .rrc (.reg .b) s

/-- `RRC C` (R227). -/
def execRrcC (s : State) : Out := rotateOperand .rrc (.reg .c) s

/-- `RRC D` (R227). -/
def execRrcD (s : State) : Out := rotateOperand .rrc (.reg .d) s

/-- `RRC E` (R227). -/
def execRrcE (s : State) : Out := rotateOperand .rrc (.reg .e) s

/-- `RRC H` (R227). -/
def execRrcH (s : State) : Out := rotateOperand .rrc (.reg .h) s

/-- `RRC L` (R227). -/
def execRrcL (s : State) : Out := rotateOperand .rrc (.reg .l) s

/-- `RRC (HL)` (R228). -/
def execRrcAtHl (s : State) : Out := rotateOperand .rrc .atHl s

/-- `RRC A` (R227). -/
def execRrcA (s : State) : Out := rotateOperand .rrc (.reg .a) s

/-- `RL B` (R229). -/
def execRlB (s : State) : Out := rotateOperand .rl (.reg .b) s

/-- `RL C` (R229). -/
def execRlC (s : State) : Out := rotateOperand .rl (.reg .c) s

/-- `RL D` (R229). -/
def execRlD (s : State) : Out := rotateOperand .rl (.reg .d) s

/-- `RL E` (R229). -/
def execRlE (s : State) : Out := rotateOperand .rl (.reg .e) s

/-- `RL H` (R229). -/
def execRlH (s : State) : Out := rotateOperand .rl (.reg .h) s

/-- `RL L` (R229). -/
def execRlL (s : State) : Out := rotateOperand .rl (.reg .l) s

/-- `RL (HL)` (R230). -/
def execRlAtHl (s : State) : Out := rotateOperand .rl .atHl s

/-- `RL A` (R229). -/
def execRlA (s : State) : Out := rotateOperand .rl (.reg .a) s

/-- `RR B` (R231). -/
def execRrB (s : State) : Out := rotateOperand .rr (.reg .b) s

/-- `RR C` (R231). -/
def execRrC (s : State) : Out := rotateOperand .rr (.reg .c) s

/-- `RR D` (R231). -/
def execRrD (s : State) : Out := rotateOperand .rr (.reg .d) s

/-- `RR E` (R231). -/
def execRrE (s : State) : Out := rotateOperand .rr (.reg .e) s

/-- `RR H` (R231). -/
def execRrH (s : State) : Out := rotateOperand .rr (.reg .h) s

/-- `RR L` (R231). -/
def execRrL (s : State) : Out := rotateOperand .rr (.reg .l) s

/-- `RR (HL)` (R232). -/
def execRrAtHl (s : State) : Out := rotateOperand .rr .atHl s

/-- `RR A` (R231). -/
def execRrA (s : State) : Out := rotateOperand .rr (.reg .a) s

/-- `SLA B` (R233). -/
def execSlaB (s : State) : Out := rotateOperand .sla (.reg .b) s

/-- `SLA C` (R233). -/
def execSlaC (s : State) : Out := rotateOperand .sla (.reg .c) s

/-- `SLA D` (R233). -/
def execSlaD (s : State) : Out := rotateOperand .sla (.reg .d) s

/-- `SLA E` (R233). -/
def execSlaE (s : State) : Out := rotateOperand .sla (.reg .e) s

/-- `SLA H` (R233). -/
def execSlaH (s : State) : Out := rotateOperand .sla (.reg .h) s

/-- `SLA L` (R233). -/
def execSlaL (s : State) : Out := rotateOperand .sla (.reg .l) s

/-- `SLA (HL)` (R234). -/
def execSlaAtHl (s : State) : Out := rotateOperand .sla .atHl s

/-- `SLA A` (R233). -/
def execSlaA (s : State) : Out := rotateOperand .sla (.reg .a) s

/-- `SRA B` (R235). -/
def execSraB (s : State) : Out := rotateOperand .sra (.reg .b) s

/-- `SRA C` (R235). -/
def execSraC (s : State) : Out := rotateOperand .sra (.reg .c) s

/-- `SRA D` (R235). -/
def execSraD (s : State) : Out := rotateOperand .sra (.reg .d) s

/-- `SRA E` (R235). -/
def execSraE (s : State) : Out := rotateOperand .sra (.reg .e) s

/-- `SRA H` (R235). -/
def execSraH (s : State) : Out := rotateOperand .sra (.reg .h) s

/-- `SRA L` (R235). -/
def execSraL (s : State) : Out := rotateOperand .sra (.reg .l) s

/-- `SRA (HL)` (R236). -/
def execSraAtHl (s : State) : Out := rotateOperand .sra .atHl s

/-- `SRA A` (R235). -/
def execSraA (s : State) : Out := rotateOperand .sra (.reg .a) s

/-- `SWAP B` (R237). -/
def execSwapB (s : State) : Out := rotateOperand .swap (.reg .b) s

/-- `SWAP C` (R237). -/
def execSwapC (s : State) : Out := rotateOperand .swap (.reg .c) s

/-- `SWAP D` (R237). -/
def execSwapD (s : State) : Out := rotateOperand .swap (.reg .d) s

/-- `SWAP E` (R237). -/
def execSwapE (s : State) : Out := rotateOperand .swap (.reg .e) s

/-- `SWAP H` (R237). -/
def execSwapH (s : State) : Out := rotateOperand .swap (.reg .h) s

/-- `SWAP L` (R237). -/
def execSwapL (s : State) : Out := rotateOperand .swap (.reg .l) s

/-- `SWAP (HL)` (R238). -/
def execSwapAtHl (s : State) : Out := rotateOperand .swap .atHl s

/-- `SWAP A` (R237). -/
def execSwapA (s : State) : Out := rotateOperand .swap (.reg .a) s

/-- `SRL B` (R239). -/
def execSrlB (s : State) : Out := rotateOperand .srl (.reg .b) s

/-- `SRL C` (R239). -/
def execSrlC (s : State) : Out := rotateOperand .srl (.reg .c) s

/-- `SRL D` (R239). -/
def execSrlD (s : State) : Out := rotateOperand .srl (.reg .d) s

/-- `SRL E` (R239). -/
def execSrlE (s : State) : Out := rotateOperand .srl (.reg .e) s

/-- `SRL H` (R239). -/
def execSrlH (s : State) : Out := rotateOperand .srl (.reg .h) s

/-- `SRL L` (R239). -/
def execSrlL (s : State) : Out := rotateOperand .srl (.reg .l) s

/-- `SRL (HL)` (R240). -/
def execSrlAtHl (s : State) : Out := rotateOperand .srl .atHl s

/-- `SRL A` (R239). -/
def execSrlA (s : State) : Out := rotateOperand .srl (.reg .a) s

end Sys2Proof.Machine
end

