-- ==== Sys2Proof/WellFormed.lean ====
section
/-! DEFINITION. Which terms of `Instr` stand for a whole instruction.

Operand ranges need no check: every operand's type holds exactly the values its field admits (R103, R111, and
'Any value' of R342's operand byte). One check is left: 0xCB is 'a base-table entry whose body fetches one more byte
and dispatches through the second table' (R101), so the instruction those two bytes stand for is the row of the
extended table, and `prefixCb` alone is not yet a decoded instruction (notes/assumptions/5.md). -/

namespace Sys2Proof

/-- `prefixCb` is the decoder's intermediate entry; every other constructor is a decoded instruction (R101, R117). -/
def Instr.wellFormed : Instr → Bool
  | .prefixCb _ => false
  | _ => true

end Sys2Proof
end

