-- ==== Sys2Proof/Decode.lean ====
section
/-! DEFINITION. The decoder (30_encoding.md), total on any bytes, and after it the encoder.

Decoding goes BY FIELDS, as R103 to R111 and R114 describe the opcode map; the encoder gives each row's bytes AS THE
OPCODE TABLE LISTS THEM. The two are written independently, and that they agree is a statement about both. -/

namespace Sys2Proof

open Sys2Proof.Machine (concat16 highByte lowByte field)

/-! ### Rows by operand: the constructors of one row pattern, indexed by the operand its field selects -/

/-- `ALU A,sss`: the rows `10ooosss` (R107, R150 to R173). -/
def Instr.alu : AluOp → Opnd8 → Instr
  | .add, .reg .b => .addAB
  | .add, .reg .c => .addAC
  | .add, .reg .d => .addAD
  | .add, .reg .e => .addAE
  | .add, .reg .h => .addAH
  | .add, .reg .l => .addAL
  | .add, .atHl => .addAAtHl
  | .add, .reg .a => .addAA
  | .adc, .reg .b => .adcAB
  | .adc, .reg .c => .adcAC
  | .adc, .reg .d => .adcAD
  | .adc, .reg .e => .adcAE
  | .adc, .reg .h => .adcAH
  | .adc, .reg .l => .adcAL
  | .adc, .atHl => .adcAAtHl
  | .adc, .reg .a => .adcAA
  | .sub, .reg .b => .subB
  | .sub, .reg .c => .subC
  | .sub, .reg .d => .subD
  | .sub, .reg .e => .subE
  | .sub, .reg .h => .subH
  | .sub, .reg .l => .subL
  | .sub, .atHl => .subAtHl
  | .sub, .reg .a => .subA
  | .sbc, .reg .b => .sbcAB
  | .sbc, .reg .c => .sbcAC
  | .sbc, .reg .d => .sbcAD
  | .sbc, .reg .e => .sbcAE
  | .sbc, .reg .h => .sbcAH
  | .sbc, .reg .l => .sbcAL
  | .sbc, .atHl => .sbcAAtHl
  | .sbc, .reg .a => .sbcAA
  | .and, .reg .b => .andB
  | .and, .reg .c => .andC
  | .and, .reg .d => .andD
  | .and, .reg .e => .andE
  | .and, .reg .h => .andH
  | .and, .reg .l => .andL
  | .and, .atHl => .andAtHl
  | .and, .reg .a => .andA
  | .xor, .reg .b => .xorB
  | .xor, .reg .c => .xorC
  | .xor, .reg .d => .xorD
  | .xor, .reg .e => .xorE
  | .xor, .reg .h => .xorH
  | .xor, .reg .l => .xorL
  | .xor, .atHl => .xorAtHl
  | .xor, .reg .a => .xorA
  | .or, .reg .b => .orB
  | .or, .reg .c => .orC
  | .or, .reg .d => .orD
  | .or, .reg .e => .orE
  | .or, .reg .h => .orH
  | .or, .reg .l => .orL
  | .or, .atHl => .orAtHl
  | .or, .reg .a => .orA
  | .cp, .reg .b => .cpB
  | .cp, .reg .c => .cpC
  | .cp, .reg .d => .cpD
  | .cp, .reg .e => .cpE
  | .cp, .reg .h => .cpH
  | .cp, .reg .l => .cpL
  | .cp, .atHl => .cpAtHl
  | .cp, .reg .a => .cpA

/-- `ALU A,d8`: the rows `11ooo110` (R107). -/
def Instr.aluImm : AluOp → Byte → Instr
  | .add, v => .addAD8 v
  | .adc, v => .adcAD8 v
  | .sub, v => .subD8 v
  | .sbc, v => .sbcAD8 v
  | .and, v => .andD8 v
  | .xor, v => .xorD8 v
  | .or, v => .orD8 v
  | .cp, v => .cpD8 v

/-- INC of an 8-bit operand: the rows `00ddd100` (R180, R181). -/
def Instr.inc8 : Opnd8 → Instr
  | .reg .b => .incB
  | .reg .c => .incC
  | .reg .d => .incD
  | .reg .e => .incE
  | .reg .h => .incH
  | .reg .l => .incL
  | .atHl => .incAtHl
  | .reg .a => .incA

/-- DEC of an 8-bit operand: the rows `00ddd101` (R182, R183). -/
def Instr.dec8 : Opnd8 → Instr
  | .reg .b => .decB
  | .reg .c => .decC
  | .reg .d => .decD
  | .reg .e => .decE
  | .reg .h => .decH
  | .reg .l => .decL
  | .atHl => .decAtHl
  | .reg .a => .decA

/-- The rows `01dddsss` (R260, R262, R263); code 110 in both fields is HALT (R114). -/
def Instr.ld8 : Opnd8 → Opnd8 → Instr
  | .reg .b, .reg .b => .ldBB
  | .reg .b, .reg .c => .ldBC
  | .reg .b, .reg .d => .ldBD
  | .reg .b, .reg .e => .ldBE
  | .reg .b, .reg .h => .ldBH
  | .reg .b, .reg .l => .ldBL
  | .reg .b, .atHl => .ldBAtHl
  | .reg .b, .reg .a => .ldBA
  | .reg .c, .reg .b => .ldCB
  | .reg .c, .reg .c => .ldCC
  | .reg .c, .reg .d => .ldCD
  | .reg .c, .reg .e => .ldCE
  | .reg .c, .reg .h => .ldCH
  | .reg .c, .reg .l => .ldCL
  | .reg .c, .atHl => .ldCAtHl
  | .reg .c, .reg .a => .ldCA
  | .reg .d, .reg .b => .ldDB
  | .reg .d, .reg .c => .ldDC
  | .reg .d, .reg .d => .ldDD
  | .reg .d, .reg .e => .ldDE
  | .reg .d, .reg .h => .ldDH
  | .reg .d, .reg .l => .ldDL
  | .reg .d, .atHl => .ldDAtHl
  | .reg .d, .reg .a => .ldDA
  | .reg .e, .reg .b => .ldEB
  | .reg .e, .reg .c => .ldEC
  | .reg .e, .reg .d => .ldED
  | .reg .e, .reg .e => .ldEE
  | .reg .e, .reg .h => .ldEH
  | .reg .e, .reg .l => .ldEL
  | .reg .e, .atHl => .ldEAtHl
  | .reg .e, .reg .a => .ldEA
  | .reg .h, .reg .b => .ldHB
  | .reg .h, .reg .c => .ldHC
  | .reg .h, .reg .d => .ldHD
  | .reg .h, .reg .e => .ldHE
  | .reg .h, .reg .h => .ldHH
  | .reg .h, .reg .l => .ldHL
  | .reg .h, .atHl => .ldHAtHl
  | .reg .h, .reg .a => .ldHA
  | .reg .l, .reg .b => .ldLB
  | .reg .l, .reg .c => .ldLC
  | .reg .l, .reg .d => .ldLD
  | .reg .l, .reg .e => .ldLE
  | .reg .l, .reg .h => .ldLH
  | .reg .l, .reg .l => .ldLL
  | .reg .l, .atHl => .ldLAtHl
  | .reg .l, .reg .a => .ldLA
  | .atHl, .reg .b => .ldAtHlB
  | .atHl, .reg .c => .ldAtHlC
  | .atHl, .reg .d => .ldAtHlD
  | .atHl, .reg .e => .ldAtHlE
  | .atHl, .reg .h => .ldAtHlH
  | .atHl, .reg .l => .ldAtHlL
  | .atHl, .atHl => .halt
  | .atHl, .reg .a => .ldAtHlA
  | .reg .a, .reg .b => .ldAB
  | .reg .a, .reg .c => .ldAC
  | .reg .a, .reg .d => .ldAD
  | .reg .a, .reg .e => .ldAE
  | .reg .a, .reg .h => .ldAH
  | .reg .a, .reg .l => .ldAL
  | .reg .a, .atHl => .ldAAtHl
  | .reg .a, .reg .a => .ldAA

/-- The rows `00ddd110` d8 (R261, R264). -/
def Instr.ld8Imm : Opnd8 → Byte → Instr
  | .reg .b, v => .ldBD8 v
  | .reg .c, v => .ldCD8 v
  | .reg .d, v => .ldDD8 v
  | .reg .e, v => .ldED8 v
  | .reg .h, v => .ldHD8 v
  | .reg .l, v => .ldLD8 v
  | .atHl, v => .ldAtHlD8 v
  | .reg .a, v => .ldAD8 v

/-- LD rr,d16: the rows `00pp0001` (R277). -/
def Instr.ldPair : Pair1 → Word → Instr
  | .bc, v => .ldBcD16 v
  | .de, v => .ldDeD16 v
  | .hl, v => .ldHlD16 v
  | .sp, v => .ldSpD16 v

/-- ADD HL,rr: the rows `00pp1001` (R202). -/
def Instr.addHl : Pair1 → Instr
  | .bc => .addHlBc
  | .de => .addHlDe
  | .hl => .addHlHl
  | .sp => .addHlSp

/-- INC rr: the rows `00pp0011` (R203). -/
def Instr.incPair : Pair1 → Instr
  | .bc => .incBc
  | .de => .incDe
  | .hl => .incHl
  | .sp => .incSp

/-- DEC rr: the rows `00pp1011` (R204). -/
def Instr.decPair : Pair1 → Instr
  | .bc => .decBc
  | .de => .decDe
  | .hl => .decHl
  | .sp => .decSp

/-- PUSH rr: the rows `11pp0101` (R303). -/
def Instr.push : Pair2 → Instr
  | .bc => .pushBc
  | .de => .pushDe
  | .hl => .pushHl
  | .af => .pushAf

/-- POP rr: the rows `11pp0001` (R304, R305). -/
def Instr.pop : Pair2 → Instr
  | .bc => .popBc
  | .de => .popDe
  | .hl => .popHl
  | .af => .popAf

/-- JP cc,a16: the rows `110cc010` (R307). -/
def Instr.jpCc : Cond → Word → Instr
  | .nz, v => .jpNzA16 v
  | .z, v => .jpZA16 v
  | .nc, v => .jpNcA16 v
  | .c, v => .jpCA16 v

/-- JR cc,r8: the rows `001cc000` (R310). -/
def Instr.jrCc : Cond → Byte → Instr
  | .nz, v => .jrNzR8 v
  | .z, v => .jrZR8 v
  | .nc, v => .jrNcR8 v
  | .c, v => .jrCR8 v

/-- CALL cc,a16: the rows `110cc100` (R312). -/
def Instr.callCc : Cond → Word → Instr
  | .nz, v => .callNzA16 v
  | .z, v => .callZA16 v
  | .nc, v => .callNcA16 v
  | .c, v => .callCA16 v

/-- RET cc: the rows `110cc000` (R314). -/
def Instr.retCc : Cond → Instr
  | .nz => .retNz
  | .z => .retZ
  | .nc => .retNc
  | .c => .retC

/-- RST t: the rows `11ttt111` (R316). -/
def Instr.rst : RstVec → Instr
  | .v00 => .rst00
  | .v08 => .rst08
  | .v10 => .rst10
  | .v18 => .rst18
  | .v20 => .rst20
  | .v28 => .rst28
  | .v30 => .rst30
  | .v38 => .rst38

/-- The eleven illegal slots (R115, R360). -/
def Instr.illegal : IllegalSlot → Instr
  | .d3 => .illegalD3
  | .db => .illegalDB
  | .dd => .illegalDD
  | .e3 => .illegalE3
  | .e4 => .illegalE4
  | .eb => .illegalEB
  | .ec => .illegalEC
  | .ed => .illegalED
  | .f4 => .illegalF4
  | .fc => .illegalFC
  | .fd => .illegalFD

/-- CB rotates and shifts: the rows 0xCB `00ooosss` (R110, R225 to R240). -/
def Instr.rot : RotOp → Opnd8 → Instr
  | .rlc, .reg .b => .rlcB
  | .rlc, .reg .c => .rlcC
  | .rlc, .reg .d => .rlcD
  | .rlc, .reg .e => .rlcE
  | .rlc, .reg .h => .rlcH
  | .rlc, .reg .l => .rlcL
  | .rlc, .atHl => .rlcAtHl
  | .rlc, .reg .a => .rlcA
  | .rrc, .reg .b => .rrcB
  | .rrc, .reg .c => .rrcC
  | .rrc, .reg .d => .rrcD
  | .rrc, .reg .e => .rrcE
  | .rrc, .reg .h => .rrcH
  | .rrc, .reg .l => .rrcL
  | .rrc, .atHl => .rrcAtHl
  | .rrc, .reg .a => .rrcA
  | .rl, .reg .b => .rlB
  | .rl, .reg .c => .rlC
  | .rl, .reg .d => .rlD
  | .rl, .reg .e => .rlE
  | .rl, .reg .h => .rlH
  | .rl, .reg .l => .rlL
  | .rl, .atHl => .rlAtHl
  | .rl, .reg .a => .rlA
  | .rr, .reg .b => .rrB
  | .rr, .reg .c => .rrC
  | .rr, .reg .d => .rrD
  | .rr, .reg .e => .rrE
  | .rr, .reg .h => .rrH
  | .rr, .reg .l => .rrL
  | .rr, .atHl => .rrAtHl
  | .rr, .reg .a => .rrA
  | .sla, .reg .b => .slaB
  | .sla, .reg .c => .slaC
  | .sla, .reg .d => .slaD
  | .sla, .reg .e => .slaE
  | .sla, .reg .h => .slaH
  | .sla, .reg .l => .slaL
  | .sla, .atHl => .slaAtHl
  | .sla, .reg .a => .slaA
  | .sra, .reg .b => .sraB
  | .sra, .reg .c => .sraC
  | .sra, .reg .d => .sraD
  | .sra, .reg .e => .sraE
  | .sra, .reg .h => .sraH
  | .sra, .reg .l => .sraL
  | .sra, .atHl => .sraAtHl
  | .sra, .reg .a => .sraA
  | .swap, .reg .b => .swapB
  | .swap, .reg .c => .swapC
  | .swap, .reg .d => .swapD
  | .swap, .reg .e => .swapE
  | .swap, .reg .h => .swapH
  | .swap, .reg .l => .swapL
  | .swap, .atHl => .swapAtHl
  | .swap, .reg .a => .swapA
  | .srl, .reg .b => .srlB
  | .srl, .reg .c => .srlC
  | .srl, .reg .d => .srlD
  | .srl, .reg .e => .srlE
  | .srl, .reg .h => .srlH
  | .srl, .reg .l => .srlL
  | .srl, .atHl => .srlAtHl
  | .srl, .reg .a => .srlA

/-- BIT: the rows 0xCB `01bbbsss` (R109, R241, R242). -/
def Instr.bit : BitNo → Opnd8 → Instr
  | .b0, .reg .b => .bit0B
  | .b0, .reg .c => .bit0C
  | .b0, .reg .d => .bit0D
  | .b0, .reg .e => .bit0E
  | .b0, .reg .h => .bit0H
  | .b0, .reg .l => .bit0L
  | .b0, .atHl => .bit0AtHl
  | .b0, .reg .a => .bit0A
  | .b1, .reg .b => .bit1B
  | .b1, .reg .c => .bit1C
  | .b1, .reg .d => .bit1D
  | .b1, .reg .e => .bit1E
  | .b1, .reg .h => .bit1H
  | .b1, .reg .l => .bit1L
  | .b1, .atHl => .bit1AtHl
  | .b1, .reg .a => .bit1A
  | .b2, .reg .b => .bit2B
  | .b2, .reg .c => .bit2C
  | .b2, .reg .d => .bit2D
  | .b2, .reg .e => .bit2E
  | .b2, .reg .h => .bit2H
  | .b2, .reg .l => .bit2L
  | .b2, .atHl => .bit2AtHl
  | .b2, .reg .a => .bit2A
  | .b3, .reg .b => .bit3B
  | .b3, .reg .c => .bit3C
  | .b3, .reg .d => .bit3D
  | .b3, .reg .e => .bit3E
  | .b3, .reg .h => .bit3H
  | .b3, .reg .l => .bit3L
  | .b3, .atHl => .bit3AtHl
  | .b3, .reg .a => .bit3A
  | .b4, .reg .b => .bit4B
  | .b4, .reg .c => .bit4C
  | .b4, .reg .d => .bit4D
  | .b4, .reg .e => .bit4E
  | .b4, .reg .h => .bit4H
  | .b4, .reg .l => .bit4L
  | .b4, .atHl => .bit4AtHl
  | .b4, .reg .a => .bit4A
  | .b5, .reg .b => .bit5B
  | .b5, .reg .c => .bit5C
  | .b5, .reg .d => .bit5D
  | .b5, .reg .e => .bit5E
  | .b5, .reg .h => .bit5H
  | .b5, .reg .l => .bit5L
  | .b5, .atHl => .bit5AtHl
  | .b5, .reg .a => .bit5A
  | .b6, .reg .b => .bit6B
  | .b6, .reg .c => .bit6C
  | .b6, .reg .d => .bit6D
  | .b6, .reg .e => .bit6E
  | .b6, .reg .h => .bit6H
  | .b6, .reg .l => .bit6L
  | .b6, .atHl => .bit6AtHl
  | .b6, .reg .a => .bit6A
  | .b7, .reg .b => .bit7B
  | .b7, .reg .c => .bit7C
  | .b7, .reg .d => .bit7D
  | .b7, .reg .e => .bit7E
  | .b7, .reg .h => .bit7H
  | .b7, .reg .l => .bit7L
  | .b7, .atHl => .bit7AtHl
  | .b7, .reg .a => .bit7A

/-- RES: the rows 0xCB `10bbbsss` (R109, R243, R244). -/
def Instr.res : BitNo → Opnd8 → Instr
  | .b0, .reg .b => .res0B
  | .b0, .reg .c => .res0C
  | .b0, .reg .d => .res0D
  | .b0, .reg .e => .res0E
  | .b0, .reg .h => .res0H
  | .b0, .reg .l => .res0L
  | .b0, .atHl => .res0AtHl
  | .b0, .reg .a => .res0A
  | .b1, .reg .b => .res1B
  | .b1, .reg .c => .res1C
  | .b1, .reg .d => .res1D
  | .b1, .reg .e => .res1E
  | .b1, .reg .h => .res1H
  | .b1, .reg .l => .res1L
  | .b1, .atHl => .res1AtHl
  | .b1, .reg .a => .res1A
  | .b2, .reg .b => .res2B
  | .b2, .reg .c => .res2C
  | .b2, .reg .d => .res2D
  | .b2, .reg .e => .res2E
  | .b2, .reg .h => .res2H
  | .b2, .reg .l => .res2L
  | .b2, .atHl => .res2AtHl
  | .b2, .reg .a => .res2A
  | .b3, .reg .b => .res3B
  | .b3, .reg .c => .res3C
  | .b3, .reg .d => .res3D
  | .b3, .reg .e => .res3E
  | .b3, .reg .h => .res3H
  | .b3, .reg .l => .res3L
  | .b3, .atHl => .res3AtHl
  | .b3, .reg .a => .res3A
  | .b4, .reg .b => .res4B
  | .b4, .reg .c => .res4C
  | .b4, .reg .d => .res4D
  | .b4, .reg .e => .res4E
  | .b4, .reg .h => .res4H
  | .b4, .reg .l => .res4L
  | .b4, .atHl => .res4AtHl
  | .b4, .reg .a => .res4A
  | .b5, .reg .b => .res5B
  | .b5, .reg .c => .res5C
  | .b5, .reg .d => .res5D
  | .b5, .reg .e => .res5E
  | .b5, .reg .h => .res5H
  | .b5, .reg .l => .res5L
  | .b5, .atHl => .res5AtHl
  | .b5, .reg .a => .res5A
  | .b6, .reg .b => .res6B
  | .b6, .reg .c => .res6C
  | .b6, .reg .d => .res6D
  | .b6, .reg .e => .res6E
  | .b6, .reg .h => .res6H
  | .b6, .reg .l => .res6L
  | .b6, .atHl => .res6AtHl
  | .b6, .reg .a => .res6A
  | .b7, .reg .b => .res7B
  | .b7, .reg .c => .res7C
  | .b7, .reg .d => .res7D
  | .b7, .reg .e => .res7E
  | .b7, .reg .h => .res7H
  | .b7, .reg .l => .res7L
  | .b7, .atHl => .res7AtHl
  | .b7, .reg .a => .res7A

/-- SET: the rows 0xCB `11bbbsss` (R109, R245, R246). -/
def Instr.set : BitNo → Opnd8 → Instr
  | .b0, .reg .b => .set0B
  | .b0, .reg .c => .set0C
  | .b0, .reg .d => .set0D
  | .b0, .reg .e => .set0E
  | .b0, .reg .h => .set0H
  | .b0, .reg .l => .set0L
  | .b0, .atHl => .set0AtHl
  | .b0, .reg .a => .set0A
  | .b1, .reg .b => .set1B
  | .b1, .reg .c => .set1C
  | .b1, .reg .d => .set1D
  | .b1, .reg .e => .set1E
  | .b1, .reg .h => .set1H
  | .b1, .reg .l => .set1L
  | .b1, .atHl => .set1AtHl
  | .b1, .reg .a => .set1A
  | .b2, .reg .b => .set2B
  | .b2, .reg .c => .set2C
  | .b2, .reg .d => .set2D
  | .b2, .reg .e => .set2E
  | .b2, .reg .h => .set2H
  | .b2, .reg .l => .set2L
  | .b2, .atHl => .set2AtHl
  | .b2, .reg .a => .set2A
  | .b3, .reg .b => .set3B
  | .b3, .reg .c => .set3C
  | .b3, .reg .d => .set3D
  | .b3, .reg .e => .set3E
  | .b3, .reg .h => .set3H
  | .b3, .reg .l => .set3L
  | .b3, .atHl => .set3AtHl
  | .b3, .reg .a => .set3A
  | .b4, .reg .b => .set4B
  | .b4, .reg .c => .set4C
  | .b4, .reg .d => .set4D
  | .b4, .reg .e => .set4E
  | .b4, .reg .h => .set4H
  | .b4, .reg .l => .set4L
  | .b4, .atHl => .set4AtHl
  | .b4, .reg .a => .set4A
  | .b5, .reg .b => .set5B
  | .b5, .reg .c => .set5C
  | .b5, .reg .d => .set5D
  | .b5, .reg .e => .set5E
  | .b5, .reg .h => .set5H
  | .b5, .reg .l => .set5L
  | .b5, .atHl => .set5AtHl
  | .b5, .reg .a => .set5A
  | .b6, .reg .b => .set6B
  | .b6, .reg .c => .set6C
  | .b6, .reg .d => .set6D
  | .b6, .reg .e => .set6E
  | .b6, .reg .h => .set6H
  | .b6, .reg .l => .set6L
  | .b6, .atHl => .set6AtHl
  | .b6, .reg .a => .set6A
  | .b7, .reg .b => .set7B
  | .b7, .reg .c => .set7C
  | .b7, .reg .d => .set7D
  | .b7, .reg .e => .set7E
  | .b7, .reg .h => .set7H
  | .b7, .reg .l => .set7L
  | .b7, .atHl => .set7AtHl
  | .b7, .reg .a => .set7A

/-! ### Field codes -/

/-- The register code of R104: 000 B, 001 C, 010 D, 011 E, 100 H, 101 L, 110 (HL), 111 A. -/
def opnd8OfCode : Nat → Opnd8
  | 0 => .reg .b | 1 => .reg .c | 2 => .reg .d | 3 => .reg .e
  | 4 => .reg .h | 5 => .reg .l | 6 => .atHl | _ => .reg .a

/-- Pair code, group 1 (R105): 00 BC, 01 DE, 10 HL, 11 SP. -/
def pair1OfCode : Nat → Pair1
  | 0 => .bc | 1 => .de | 2 => .hl | _ => .sp

/-- Pair code, group 2 (R105): 00 BC, 01 DE, 10 HL, 11 AF. -/
def pair2OfCode : Nat → Pair2
  | 0 => .bc | 1 => .de | 2 => .hl | _ => .af

/-- Condition code (R106): 00 NZ, 01 Z, 10 NC, 11 C. -/
def condOfCode : Nat → Cond
  | 0 => .nz | 1 => .z | 2 => .nc | _ => .c

/-- ALU operation code (R107). -/
def aluOfCode : Nat → AluOp
  | 0 => .add | 1 => .adc | 2 => .sub | 3 => .sbc
  | 4 => .and | 5 => .xor | 6 => .or | _ => .cp

/-- CB rotate and shift code (R110). -/
def rotOfCode : Nat → RotOp
  | 0 => .rlc | 1 => .rrc | 2 => .rl | 3 => .rr
  | 4 => .sla | 5 => .sra | 6 => .swap | _ => .srl

/-- The bit number `bbb` of R109. -/
def bitOfCode : Nat → BitNo
  | 0 => .b0 | 1 => .b1 | 2 => .b2 | 3 => .b3
  | 4 => .b4 | 5 => .b5 | 6 => .b6 | _ => .b7

/-- The restart field `ttt` of R108, whose target is `ttt * 8`. -/
def rstOfCode : Nat → RstVec
  | 0 => .v00 | 1 => .v08 | 2 => .v10 | 3 => .v18
  | 4 => .v20 | 5 => .v28 | 6 => .v30 | _ => .v38

/-! ### The base table, by blocks (bits 7:6), columns (bits 2:0) and rows (bits 5:3) of the opcode (R103, R114)

`y` is bits 5:3, `y / 2` the pair field bits 5:4, `y % 2` the bit `q`; `b1` and `b2` are the bytes after the opcode. -/

/-- Block 00 (R114). -/
def baseBlock0 (y z : Nat) (b1 b2 : Byte) : Instr :=
  match z with
  | 0 =>
    match y with
    | 0 => .nop
    | 1 => .ldAtA16Sp (concat16 b2 b1)
    | 2 => .stop b1
    | 3 => .jrR8 b1
    | _ => .jrCc (condOfCode (y - 4)) b1
  | 1 => if y % 2 = 0 then .ldPair (pair1OfCode (y / 2)) (concat16 b2 b1) else .addHl (pair1OfCode (y / 2))
  | 2 =>
    match y with
    | 0 => .ldAtBcA
    | 1 => .ldAAtBc
    | 2 => .ldAtDeA
    | 3 => .ldAAtDe
    | 4 => .ldAtHliA
    | 5 => .ldAAtHli
    | 6 => .ldAtHldA
    | _ => .ldAAtHld
  | 3 => if y % 2 = 0 then .incPair (pair1OfCode (y / 2)) else .decPair (pair1OfCode (y / 2))
  | 4 => .inc8 (opnd8OfCode y)
  | 5 => .dec8 (opnd8OfCode y)
  | 6 => .ld8Imm (opnd8OfCode y) b1
  | _ =>
    match y with
    | 0 => .rlca
    | 1 => .rrca
    | 2 => .rla
    | 3 => .rra
    | 4 => .daa
    | 5 => .cpl
    | 6 => .scf
    | _ => .ccf

/-- Block 11 (R114), with the illegal slots of R115. -/
def baseBlock3 (y z : Nat) (b1 b2 : Byte) : Instr :=
  match z with
  | 0 =>
    match y with
    | 4 => .ldhAtA8A b1
    | 5 => .addSpR8 b1
    | 6 => .ldhAAtA8 b1
    | 7 => .ldHlSpR8 b1
    | _ => .retCc (condOfCode y)
  | 1 =>
    match y with
    | 1 => .ret
    | 3 => .reti
    | 5 => .jpHl
    | 7 => .ldSpHl
    | _ => .pop (pair2OfCode (y / 2))
  | 2 =>
    match y with
    | 4 => .ldAtCA
    | 5 => .ldAtA16A (concat16 b2 b1)
    | 6 => .ldAAtC
    | 7 => .ldAAtA16 (concat16 b2 b1)
    | _ => .jpCc (condOfCode y) (concat16 b2 b1)
  | 3 =>
    match y with
    | 0 => .jpA16 (concat16 b2 b1)
    | 1 => .prefixCb b1
    | 2 => .illegalD3
    | 3 => .illegalDB
    | 4 => .illegalE3
    | 5 => .illegalEB
    | 6 => .di
    | _ => .ei
  | 4 =>
    match y with
    | 4 => .illegalE4
    | 5 => .illegalEC
    | 6 => .illegalF4
    | 7 => .illegalFC
    | _ => .callCc (condOfCode y) (concat16 b2 b1)
  | 5 =>
    match y with
    | 1 => .callA16 (concat16 b2 b1)
    | 3 => .illegalDD
    | 5 => .illegalED
    | 7 => .illegalFD
    | _ => .push (pair2OfCode (y / 2))
  | 6 => .aluImm (aluOfCode y) b1
  | _ => .rst (rstOfCode y)

/-- The base table (R101): the entry of the first byte, with the two bytes after it as its immediates. -/
def baseEntry (op b1 b2 : Byte) : Instr :=
  match field op 6 2 with
  | 0 => baseBlock0 (field op 3 3) (field op 0 3) b1 b2
  | 1 => .ld8 (opnd8OfCode (field op 3 3)) (opnd8OfCode (field op 0 3))
  | 2 => .alu (aluOfCode (field op 3 3)) (opnd8OfCode (field op 0 3))
  | _ => baseBlock3 (field op 3 3) (field op 0 3) b1 b2

/-- The extended table (R101, R109): the entry of the byte after 0xCB, `gg ooo sss`. -/
def cbEntry (op2 : Byte) : Instr :=
  match field op2 6 2 with
  | 0 => .rot (rotOfCode (field op2 3 3)) (opnd8OfCode (field op2 0 3))
  | 1 => .bit (bitOfCode (field op2 3 3)) (opnd8OfCode (field op2 0 3))
  | 2 => .res (bitOfCode (field op2 3 3)) (opnd8OfCode (field op2 0 3))
  | _ => .set (bitOfCode (field op2 3 3)) (opnd8OfCode (field op2 0 3))

/-- The second level of decoding: the prefix's body 'dispatches through the second table' (R101). -/
def Instr.resolve : Instr → Instr
  | .prefixCb op2 => cbEntry op2
  | i => i

/-- The length in bytes of the instruction whose first byte is `op`, a function of the first byte alone (R102, R118,
the length column of R112). -/
def opLength (op : Byte) : Nat :=
  if op ∈ ([0x01, 0x11, 0x21, 0x31, 0x08, 0xC2, 0xC3, 0xC4, 0xCA, 0xCC, 0xCD, 0xD2, 0xD4, 0xDA, 0xDC, 0xEA, 0xFA] : List Byte)
  then 3
  else if op ∈ ([0x06, 0x0E, 0x16, 0x1E, 0x26, 0x2E, 0x36, 0x3E, 0x10, 0x18, 0x20, 0x28, 0x30, 0x38,
    0xC6, 0xCE, 0xD6, 0xDE, 0xE6, 0xEE, 0xF6, 0xFE, 0xCB, 0xE0, 0xF0, 0xE8, 0xF8] : List Byte)
  then 2
  else 1

/-- Why bytes are not an instruction. No opcode is among the reasons: every slot is bound (R117). -/
inductive DecodeError where
  /-- There is no first byte. -/
  | noByte
  /-- Fewer bytes follow than the first byte asks for (R102). -/
  | truncated (op : Byte) (present : Nat)
deriving DecidableEq, Repr

/-- The decoder's answer: an instruction and the bytes after it, or a rejection by name. -/
inductive DecodeResult where
  | ok (i : Instr) (rest : List Byte)
  | reject (e : DecodeError)
deriving DecidableEq, Repr

/-- Decoding bytes, byte 0 first in memory (R103): 1, 2 or 3 of them, by the first (R102). -/
def decode : List Byte → DecodeResult
  | [] => .reject .noByte
  | op :: rest =>
    if rest.length + 1 < opLength op then .reject (.truncated op (rest.length + 1))
    else .ok (baseEntry op (rest.getD 0 0) (rest.getD 1 0)).resolve (rest.drop (opLength op - 1))

/-! ### The encoder: each row's bytes, as spec/opcode_table.json lists them, with the format of R103 -/

/-- The bytes of an instruction, byte 0 first in memory. -/
def encode : Instr → List Byte
  | .nop => [0x00]
  | .ldBcD16 d16 => [0x01, lowByte d16, highByte d16]
  | .ldAtBcA => [0x02]
  | .incBc => [0x03]
  | .incB => [0x04]
  | .decB => [0x05]
  | .ldBD8 d8 => [0x06, d8]
  | .rlca => [0x07]
  | .ldAtA16Sp a16 => [0x08, lowByte a16, highByte a16]
  | .addHlBc => [0x09]
  | .ldAAtBc => [0x0A]
  | .decBc => [0x0B]
  | .incC => [0x0C]
  | .decC => [0x0D]
  | .ldCD8 d8 => [0x0E, d8]
  | .rrca => [0x0F]
  | .stop d8 => [0x10, d8]
  | .ldDeD16 d16 => [0x11, lowByte d16, highByte d16]
  | .ldAtDeA => [0x12]
  | .incDe => [0x13]
  | .incD => [0x14]
  | .decD => [0x15]
  | .ldDD8 d8 => [0x16, d8]
  | .rla => [0x17]
  | .jrR8 r8 => [0x18, r8]
  | .addHlDe => [0x19]
  | .ldAAtDe => [0x1A]
  | .decDe => [0x1B]
  | .incE => [0x1C]
  | .decE => [0x1D]
  | .ldED8 d8 => [0x1E, d8]
  | .rra => [0x1F]
  | .jrNzR8 r8 => [0x20, r8]
  | .ldHlD16 d16 => [0x21, lowByte d16, highByte d16]
  | .ldAtHliA => [0x22]
  | .incHl => [0x23]
  | .incH => [0x24]
  | .decH => [0x25]
  | .ldHD8 d8 => [0x26, d8]
  | .daa => [0x27]
  | .jrZR8 r8 => [0x28, r8]
  | .addHlHl => [0x29]
  | .ldAAtHli => [0x2A]
  | .decHl => [0x2B]
  | .incL => [0x2C]
  | .decL => [0x2D]
  | .ldLD8 d8 => [0x2E, d8]
  | .cpl => [0x2F]
  | .jrNcR8 r8 => [0x30, r8]
  | .ldSpD16 d16 => [0x31, lowByte d16, highByte d16]
  | .ldAtHldA => [0x32]
  | .incSp => [0x33]
  | .incAtHl => [0x34]
  | .decAtHl => [0x35]
  | .ldAtHlD8 d8 => [0x36, d8]
  | .scf => [0x37]
  | .jrCR8 r8 => [0x38, r8]
  | .addHlSp => [0x39]
  | .ldAAtHld => [0x3A]
  | .decSp => [0x3B]
  | .incA => [0x3C]
  | .decA => [0x3D]
  | .ldAD8 d8 => [0x3E, d8]
  | .ccf => [0x3F]
  | .ldBB => [0x40]
  | .ldBC => [0x41]
  | .ldBD => [0x42]
  | .ldBE => [0x43]
  | .ldBH => [0x44]
  | .ldBL => [0x45]
  | .ldBAtHl => [0x46]
  | .ldBA => [0x47]
  | .ldCB => [0x48]
  | .ldCC => [0x49]
  | .ldCD => [0x4A]
  | .ldCE => [0x4B]
  | .ldCH => [0x4C]
  | .ldCL => [0x4D]
  | .ldCAtHl => [0x4E]
  | .ldCA => [0x4F]
  | .ldDB => [0x50]
  | .ldDC => [0x51]
  | .ldDD => [0x52]
  | .ldDE => [0x53]
  | .ldDH => [0x54]
  | .ldDL => [0x55]
  | .ldDAtHl => [0x56]
  | .ldDA => [0x57]
  | .ldEB => [0x58]
  | .ldEC => [0x59]
  | .ldED => [0x5A]
  | .ldEE => [0x5B]
  | .ldEH => [0x5C]
  | .ldEL => [0x5D]
  | .ldEAtHl => [0x5E]
  | .ldEA => [0x5F]
  | .ldHB => [0x60]
  | .ldHC => [0x61]
  | .ldHD => [0x62]
  | .ldHE => [0x63]
  | .ldHH => [0x64]
  | .ldHL => [0x65]
  | .ldHAtHl => [0x66]
  | .ldHA => [0x67]
  | .ldLB => [0x68]
  | .ldLC => [0x69]
  | .ldLD => [0x6A]
  | .ldLE => [0x6B]
  | .ldLH => [0x6C]
  | .ldLL => [0x6D]
  | .ldLAtHl => [0x6E]
  | .ldLA => [0x6F]
  | .ldAtHlB => [0x70]
  | .ldAtHlC => [0x71]
  | .ldAtHlD => [0x72]
  | .ldAtHlE => [0x73]
  | .ldAtHlH => [0x74]
  | .ldAtHlL => [0x75]
  | .halt => [0x76]
  | .ldAtHlA => [0x77]
  | .ldAB => [0x78]
  | .ldAC => [0x79]
  | .ldAD => [0x7A]
  | .ldAE => [0x7B]
  | .ldAH => [0x7C]
  | .ldAL => [0x7D]
  | .ldAAtHl => [0x7E]
  | .ldAA => [0x7F]
  | .addAB => [0x80]
  | .addAC => [0x81]
  | .addAD => [0x82]
  | .addAE => [0x83]
  | .addAH => [0x84]
  | .addAL => [0x85]
  | .addAAtHl => [0x86]
  | .addAA => [0x87]
  | .adcAB => [0x88]
  | .adcAC => [0x89]
  | .adcAD => [0x8A]
  | .adcAE => [0x8B]
  | .adcAH => [0x8C]
  | .adcAL => [0x8D]
  | .adcAAtHl => [0x8E]
  | .adcAA => [0x8F]
  | .subB => [0x90]
  | .subC => [0x91]
  | .subD => [0x92]
  | .subE => [0x93]
  | .subH => [0x94]
  | .subL => [0x95]
  | .subAtHl => [0x96]
  | .subA => [0x97]
  | .sbcAB => [0x98]
  | .sbcAC => [0x99]
  | .sbcAD => [0x9A]
  | .sbcAE => [0x9B]
  | .sbcAH => [0x9C]
  | .sbcAL => [0x9D]
  | .sbcAAtHl => [0x9E]
  | .sbcAA => [0x9F]
  | .andB => [0xA0]
  | .andC => [0xA1]
  | .andD => [0xA2]
  | .andE => [0xA3]
  | .andH => [0xA4]
  | .andL => [0xA5]
  | .andAtHl => [0xA6]
  | .andA => [0xA7]
  | .xorB => [0xA8]
  | .xorC => [0xA9]
  | .xorD => [0xAA]
  | .xorE => [0xAB]
  | .xorH => [0xAC]
  | .xorL => [0xAD]
  | .xorAtHl => [0xAE]
  | .xorA => [0xAF]
  | .orB => [0xB0]
  | .orC => [0xB1]
  | .orD => [0xB2]
  | .orE => [0xB3]
  | .orH => [0xB4]
  | .orL => [0xB5]
  | .orAtHl => [0xB6]
  | .orA => [0xB7]
  | .cpB => [0xB8]
  | .cpC => [0xB9]
  | .cpD => [0xBA]
  | .cpE => [0xBB]
  | .cpH => [0xBC]
  | .cpL => [0xBD]
  | .cpAtHl => [0xBE]
  | .cpA => [0xBF]
  | .retNz => [0xC0]
  | .popBc => [0xC1]
  | .jpNzA16 a16 => [0xC2, lowByte a16, highByte a16]
  | .jpA16 a16 => [0xC3, lowByte a16, highByte a16]
  | .callNzA16 a16 => [0xC4, lowByte a16, highByte a16]
  | .pushBc => [0xC5]
  | .addAD8 d8 => [0xC6, d8]
  | .rst00 => [0xC7]
  | .retZ => [0xC8]
  | .ret => [0xC9]
  | .jpZA16 a16 => [0xCA, lowByte a16, highByte a16]
  | .prefixCb op2 => [0xCB, op2]
  | .callZA16 a16 => [0xCC, lowByte a16, highByte a16]
  | .callA16 a16 => [0xCD, lowByte a16, highByte a16]
  | .adcAD8 d8 => [0xCE, d8]
  | .rst08 => [0xCF]
  | .retNc => [0xD0]
  | .popDe => [0xD1]
  | .jpNcA16 a16 => [0xD2, lowByte a16, highByte a16]
  | .illegalD3 => [0xD3]
  | .callNcA16 a16 => [0xD4, lowByte a16, highByte a16]
  | .pushDe => [0xD5]
  | .subD8 d8 => [0xD6, d8]
  | .rst10 => [0xD7]
  | .retC => [0xD8]
  | .reti => [0xD9]
  | .jpCA16 a16 => [0xDA, lowByte a16, highByte a16]
  | .illegalDB => [0xDB]
  | .callCA16 a16 => [0xDC, lowByte a16, highByte a16]
  | .illegalDD => [0xDD]
  | .sbcAD8 d8 => [0xDE, d8]
  | .rst18 => [0xDF]
  | .ldhAtA8A a8 => [0xE0, a8]
  | .popHl => [0xE1]
  | .ldAtCA => [0xE2]
  | .illegalE3 => [0xE3]
  | .illegalE4 => [0xE4]
  | .pushHl => [0xE5]
  | .andD8 d8 => [0xE6, d8]
  | .rst20 => [0xE7]
  | .addSpR8 r8 => [0xE8, r8]
  | .jpHl => [0xE9]
  | .ldAtA16A a16 => [0xEA, lowByte a16, highByte a16]
  | .illegalEB => [0xEB]
  | .illegalEC => [0xEC]
  | .illegalED => [0xED]
  | .xorD8 d8 => [0xEE, d8]
  | .rst28 => [0xEF]
  | .ldhAAtA8 a8 => [0xF0, a8]
  | .popAf => [0xF1]
  | .ldAAtC => [0xF2]
  | .di => [0xF3]
  | .illegalF4 => [0xF4]
  | .pushAf => [0xF5]
  | .orD8 d8 => [0xF6, d8]
  | .rst30 => [0xF7]
  | .ldHlSpR8 r8 => [0xF8, r8]
  | .ldSpHl => [0xF9]
  | .ldAAtA16 a16 => [0xFA, lowByte a16, highByte a16]
  | .ei => [0xFB]
  | .illegalFC => [0xFC]
  | .illegalFD => [0xFD]
  | .cpD8 d8 => [0xFE, d8]
  | .rst38 => [0xFF]
  | .rlcB => [0xCB, 0x00]
  | .rlcC => [0xCB, 0x01]
  | .rlcD => [0xCB, 0x02]
  | .rlcE => [0xCB, 0x03]
  | .rlcH => [0xCB, 0x04]
  | .rlcL => [0xCB, 0x05]
  | .rlcAtHl => [0xCB, 0x06]
  | .rlcA => [0xCB, 0x07]
  | .rrcB => [0xCB, 0x08]
  | .rrcC => [0xCB, 0x09]
  | .rrcD => [0xCB, 0x0A]
  | .rrcE => [0xCB, 0x0B]
  | .rrcH => [0xCB, 0x0C]
  | .rrcL => [0xCB, 0x0D]
  | .rrcAtHl => [0xCB, 0x0E]
  | .rrcA => [0xCB, 0x0F]
  | .rlB => [0xCB, 0x10]
  | .rlC => [0xCB, 0x11]
  | .rlD => [0xCB, 0x12]
  | .rlE => [0xCB, 0x13]
  | .rlH => [0xCB, 0x14]
  | .rlL => [0xCB, 0x15]
  | .rlAtHl => [0xCB, 0x16]
  | .rlA => [0xCB, 0x17]
  | .rrB => [0xCB, 0x18]
  | .rrC => [0xCB, 0x19]
  | .rrD => [0xCB, 0x1A]
  | .rrE => [0xCB, 0x1B]
  | .rrH => [0xCB, 0x1C]
  | .rrL => [0xCB, 0x1D]
  | .rrAtHl => [0xCB, 0x1E]
  | .rrA => [0xCB, 0x1F]
  | .slaB => [0xCB, 0x20]
  | .slaC => [0xCB, 0x21]
  | .slaD => [0xCB, 0x22]
  | .slaE => [0xCB, 0x23]
  | .slaH => [0xCB, 0x24]
  | .slaL => [0xCB, 0x25]
  | .slaAtHl => [0xCB, 0x26]
  | .slaA => [0xCB, 0x27]
  | .sraB => [0xCB, 0x28]
  | .sraC => [0xCB, 0x29]
  | .sraD => [0xCB, 0x2A]
  | .sraE => [0xCB, 0x2B]
  | .sraH => [0xCB, 0x2C]
  | .sraL => [0xCB, 0x2D]
  | .sraAtHl => [0xCB, 0x2E]
  | .sraA => [0xCB, 0x2F]
  | .swapB => [0xCB, 0x30]
  | .swapC => [0xCB, 0x31]
  | .swapD => [0xCB, 0x32]
  | .swapE => [0xCB, 0x33]
  | .swapH => [0xCB, 0x34]
  | .swapL => [0xCB, 0x35]
  | .swapAtHl => [0xCB, 0x36]
  | .swapA => [0xCB, 0x37]
  | .srlB => [0xCB, 0x38]
  | .srlC => [0xCB, 0x39]
  | .srlD => [0xCB, 0x3A]
  | .srlE => [0xCB, 0x3B]
  | .srlH => [0xCB, 0x3C]
  | .srlL => [0xCB, 0x3D]
  | .srlAtHl => [0xCB, 0x3E]
  | .srlA => [0xCB, 0x3F]
  | .bit0B => [0xCB, 0x40]
  | .bit0C => [0xCB, 0x41]
  | .bit0D => [0xCB, 0x42]
  | .bit0E => [0xCB, 0x43]
  | .bit0H => [0xCB, 0x44]
  | .bit0L => [0xCB, 0x45]
  | .bit0AtHl => [0xCB, 0x46]
  | .bit0A => [0xCB, 0x47]
  | .bit1B => [0xCB, 0x48]
  | .bit1C => [0xCB, 0x49]
  | .bit1D => [0xCB, 0x4A]
  | .bit1E => [0xCB, 0x4B]
  | .bit1H => [0xCB, 0x4C]
  | .bit1L => [0xCB, 0x4D]
  | .bit1AtHl => [0xCB, 0x4E]
  | .bit1A => [0xCB, 0x4F]
  | .bit2B => [0xCB, 0x50]
  | .bit2C => [0xCB, 0x51]
  | .bit2D => [0xCB, 0x52]
  | .bit2E => [0xCB, 0x53]
  | .bit2H => [0xCB, 0x54]
  | .bit2L => [0xCB, 0x55]
  | .bit2AtHl => [0xCB, 0x56]
  | .bit2A => [0xCB, 0x57]
  | .bit3B => [0xCB, 0x58]
  | .bit3C => [0xCB, 0x59]
  | .bit3D => [0xCB, 0x5A]
  | .bit3E => [0xCB, 0x5B]
  | .bit3H => [0xCB, 0x5C]
  | .bit3L => [0xCB, 0x5D]
  | .bit3AtHl => [0xCB, 0x5E]
  | .bit3A => [0xCB, 0x5F]
  | .bit4B => [0xCB, 0x60]
  | .bit4C => [0xCB, 0x61]
  | .bit4D => [0xCB, 0x62]
  | .bit4E => [0xCB, 0x63]
  | .bit4H => [0xCB, 0x64]
  | .bit4L => [0xCB, 0x65]
  | .bit4AtHl => [0xCB, 0x66]
  | .bit4A => [0xCB, 0x67]
  | .bit5B => [0xCB, 0x68]
  | .bit5C => [0xCB, 0x69]
  | .bit5D => [0xCB, 0x6A]
  | .bit5E => [0xCB, 0x6B]
  | .bit5H => [0xCB, 0x6C]
  | .bit5L => [0xCB, 0x6D]
  | .bit5AtHl => [0xCB, 0x6E]
  | .bit5A => [0xCB, 0x6F]
  | .bit6B => [0xCB, 0x70]
  | .bit6C => [0xCB, 0x71]
  | .bit6D => [0xCB, 0x72]
  | .bit6E => [0xCB, 0x73]
  | .bit6H => [0xCB, 0x74]
  | .bit6L => [0xCB, 0x75]
  | .bit6AtHl => [0xCB, 0x76]
  | .bit6A => [0xCB, 0x77]
  | .bit7B => [0xCB, 0x78]
  | .bit7C => [0xCB, 0x79]
  | .bit7D => [0xCB, 0x7A]
  | .bit7E => [0xCB, 0x7B]
  | .bit7H => [0xCB, 0x7C]
  | .bit7L => [0xCB, 0x7D]
  | .bit7AtHl => [0xCB, 0x7E]
  | .bit7A => [0xCB, 0x7F]
  | .res0B => [0xCB, 0x80]
  | .res0C => [0xCB, 0x81]
  | .res0D => [0xCB, 0x82]
  | .res0E => [0xCB, 0x83]
  | .res0H => [0xCB, 0x84]
  | .res0L => [0xCB, 0x85]
  | .res0AtHl => [0xCB, 0x86]
  | .res0A => [0xCB, 0x87]
  | .res1B => [0xCB, 0x88]
  | .res1C => [0xCB, 0x89]
  | .res1D => [0xCB, 0x8A]
  | .res1E => [0xCB, 0x8B]
  | .res1H => [0xCB, 0x8C]
  | .res1L => [0xCB, 0x8D]
  | .res1AtHl => [0xCB, 0x8E]
  | .res1A => [0xCB, 0x8F]
  | .res2B => [0xCB, 0x90]
  | .res2C => [0xCB, 0x91]
  | .res2D => [0xCB, 0x92]
  | .res2E => [0xCB, 0x93]
  | .res2H => [0xCB, 0x94]
  | .res2L => [0xCB, 0x95]
  | .res2AtHl => [0xCB, 0x96]
  | .res2A => [0xCB, 0x97]
  | .res3B => [0xCB, 0x98]
  | .res3C => [0xCB, 0x99]
  | .res3D => [0xCB, 0x9A]
  | .res3E => [0xCB, 0x9B]
  | .res3H => [0xCB, 0x9C]
  | .res3L => [0xCB, 0x9D]
  | .res3AtHl => [0xCB, 0x9E]
  | .res3A => [0xCB, 0x9F]
  | .res4B => [0xCB, 0xA0]
  | .res4C => [0xCB, 0xA1]
  | .res4D => [0xCB, 0xA2]
  | .res4E => [0xCB, 0xA3]
  | .res4H => [0xCB, 0xA4]
  | .res4L => [0xCB, 0xA5]
  | .res4AtHl => [0xCB, 0xA6]
  | .res4A => [0xCB, 0xA7]
  | .res5B => [0xCB, 0xA8]
  | .res5C => [0xCB, 0xA9]
  | .res5D => [0xCB, 0xAA]
  | .res5E => [0xCB, 0xAB]
  | .res5H => [0xCB, 0xAC]
  | .res5L => [0xCB, 0xAD]
  | .res5AtHl => [0xCB, 0xAE]
  | .res5A => [0xCB, 0xAF]
  | .res6B => [0xCB, 0xB0]
  | .res6C => [0xCB, 0xB1]
  | .res6D => [0xCB, 0xB2]
  | .res6E => [0xCB, 0xB3]
  | .res6H => [0xCB, 0xB4]
  | .res6L => [0xCB, 0xB5]
  | .res6AtHl => [0xCB, 0xB6]
  | .res6A => [0xCB, 0xB7]
  | .res7B => [0xCB, 0xB8]
  | .res7C => [0xCB, 0xB9]
  | .res7D => [0xCB, 0xBA]
  | .res7E => [0xCB, 0xBB]
  | .res7H => [0xCB, 0xBC]
  | .res7L => [0xCB, 0xBD]
  | .res7AtHl => [0xCB, 0xBE]
  | .res7A => [0xCB, 0xBF]
  | .set0B => [0xCB, 0xC0]
  | .set0C => [0xCB, 0xC1]
  | .set0D => [0xCB, 0xC2]
  | .set0E => [0xCB, 0xC3]
  | .set0H => [0xCB, 0xC4]
  | .set0L => [0xCB, 0xC5]
  | .set0AtHl => [0xCB, 0xC6]
  | .set0A => [0xCB, 0xC7]
  | .set1B => [0xCB, 0xC8]
  | .set1C => [0xCB, 0xC9]
  | .set1D => [0xCB, 0xCA]
  | .set1E => [0xCB, 0xCB]
  | .set1H => [0xCB, 0xCC]
  | .set1L => [0xCB, 0xCD]
  | .set1AtHl => [0xCB, 0xCE]
  | .set1A => [0xCB, 0xCF]
  | .set2B => [0xCB, 0xD0]
  | .set2C => [0xCB, 0xD1]
  | .set2D => [0xCB, 0xD2]
  | .set2E => [0xCB, 0xD3]
  | .set2H => [0xCB, 0xD4]
  | .set2L => [0xCB, 0xD5]
  | .set2AtHl => [0xCB, 0xD6]
  | .set2A => [0xCB, 0xD7]
  | .set3B => [0xCB, 0xD8]
  | .set3C => [0xCB, 0xD9]
  | .set3D => [0xCB, 0xDA]
  | .set3E => [0xCB, 0xDB]
  | .set3H => [0xCB, 0xDC]
  | .set3L => [0xCB, 0xDD]
  | .set3AtHl => [0xCB, 0xDE]
  | .set3A => [0xCB, 0xDF]
  | .set4B => [0xCB, 0xE0]
  | .set4C => [0xCB, 0xE1]
  | .set4D => [0xCB, 0xE2]
  | .set4E => [0xCB, 0xE3]
  | .set4H => [0xCB, 0xE4]
  | .set4L => [0xCB, 0xE5]
  | .set4AtHl => [0xCB, 0xE6]
  | .set4A => [0xCB, 0xE7]
  | .set5B => [0xCB, 0xE8]
  | .set5C => [0xCB, 0xE9]
  | .set5D => [0xCB, 0xEA]
  | .set5E => [0xCB, 0xEB]
  | .set5H => [0xCB, 0xEC]
  | .set5L => [0xCB, 0xED]
  | .set5AtHl => [0xCB, 0xEE]
  | .set5A => [0xCB, 0xEF]
  | .set6B => [0xCB, 0xF0]
  | .set6C => [0xCB, 0xF1]
  | .set6D => [0xCB, 0xF2]
  | .set6E => [0xCB, 0xF3]
  | .set6H => [0xCB, 0xF4]
  | .set6L => [0xCB, 0xF5]
  | .set6AtHl => [0xCB, 0xF6]
  | .set6A => [0xCB, 0xF7]
  | .set7B => [0xCB, 0xF8]
  | .set7C => [0xCB, 0xF9]
  | .set7D => [0xCB, 0xFA]
  | .set7E => [0xCB, 0xFB]
  | .set7H => [0xCB, 0xFC]
  | .set7L => [0xCB, 0xFD]
  | .set7AtHl => [0xCB, 0xFE]
  | .set7A => [0xCB, 0xFF]

/-! ### The opcode table's words -/

/-- The bytes, as they stand in memory, of a word of spec/opcode_table.json with `nbits` bits; the bits above are 0,
up to the longest instruction. The table writes a row of the extended table as ONE 16-bit number whose high byte is
the first byte, 0xCB (its `match` is 0xCB00 to 0xCBFF), so such a word is laid out high byte first; every other word
is laid out from bit 0 up (notes/assumptions/6.md). -/
def tableBytes (nbits w : Nat) : List Byte :=
  let v := w % 2 ^ nbits
  if nbits = 16 ∧ v / 256 = 0xCB then [0xCB, BitVec.ofNat 8 v, 0x00]
  else [BitVec.ofNat 8 v, BitVec.ofNat 8 (v / 256), BitVec.ofNat 8 (v / 65536)]

/-- The instruction the decoder reads from a word of the opcode table. A word of 8 bits is a slot of the base table
and is answered at the decoder's first level, so 0xCB alone is the base table's entry `PREFIX CB`; in a longer word
0xCB goes on to the extended table's row (notes/assumptions/5.md). -/
def decodeTableWord (nbits w : Nat) : Option Instr :=
  match tableBytes nbits w with
  | [op, b1, b2] =>
    if nbits = 8 then some (baseEntry op b1 b2)
    else
      match decode [op, b1, b2] with
      | .ok i _ => some i
      | .reject _ => none
  | _ => none

end Sys2Proof
end

