-- ==== Sys2Proof/Machine/System.lean ====
section
/-! DEFINITION. System instructions and the illegal opcodes (45_system.md): NOP, HALT, STOP, DI, EI, the CB prefix, ILLEGAL_xx. -/

namespace Sys2Proof.Machine

/-! ### Shared operations -/

/-- The operation bound to the illegal slots (R360): `fault` records the first one, with the address it was fetched
from; nothing else changes. -/
def illegalOpcode (op : Byte) (s : State) : Out :=
  done 1 (if s.fault = none then { s with fault := some ⟨s.opAddr, op⟩ } else s)

/-! ### One meaning per instruction -/

/-- `NOP` (R340). -/
def execNop (s : State) : Out := done 1 s

/-- `HALT` (R341). -/
def execHalt (s : State) : Out := 
  if s.config.haltBug && !s.ime then
    if s.pending ≠ 0 then done 1 { s.afterPending with haltBugArmed := true }
    else done 1 { s.afterPending with halted := true }
  else done 1 { s with halted := true }

/-- `STOP` (R342): the operand byte has been fetched and is ignored 'whatever its value' (D24). -/
def execStop (_d8 : Byte) (s : State) : Out := done 1 { s with stopped := true }

/-- `DI` (R343). -/
def execDi (s : State) : Out := done 1 { s with ime := false, eiPending := false }

/-- `EI` (R344). -/
def execEi (s : State) : Out := done 1 { s with eiPending := true }

/-- `PREFIX CB` (R345). -/
def execPrefixCb (op2 : Byte) (s : State) : Out := 
  let y := field op2 3 3
  let o := opnd8OfCode (field op2 0 3)
  match field op2 6 2 with
  | 0 => rotateOperand (rotOfCode y) o s
  | 1 => bitOperand (bitOfCode y) o s
  | 2 => resOperand (bitOfCode y) o s
  | _ => setOperand (bitOfCode y) o s

/-- `ILLEGAL_D3` (R360). -/
def execIllegalD3 (s : State) : Out := illegalOpcode 0xD3 s

/-- `ILLEGAL_DB` (R360). -/
def execIllegalDB (s : State) : Out := illegalOpcode 0xDB s

/-- `ILLEGAL_DD` (R360). -/
def execIllegalDD (s : State) : Out := illegalOpcode 0xDD s

/-- `ILLEGAL_E3` (R360). -/
def execIllegalE3 (s : State) : Out := illegalOpcode 0xE3 s

/-- `ILLEGAL_E4` (R360). -/
def execIllegalE4 (s : State) : Out := illegalOpcode 0xE4 s

/-- `ILLEGAL_EB` (R360). -/
def execIllegalEB (s : State) : Out := illegalOpcode 0xEB s

/-- `ILLEGAL_EC` (R360). -/
def execIllegalEC (s : State) : Out := illegalOpcode 0xEC s

/-- `ILLEGAL_ED` (R360). -/
def execIllegalED (s : State) : Out := illegalOpcode 0xED s

/-- `ILLEGAL_F4` (R360). -/
def execIllegalF4 (s : State) : Out := illegalOpcode 0xF4 s

/-- `ILLEGAL_FC` (R360). -/
def execIllegalFC (s : State) : Out := illegalOpcode 0xFC s

/-- `ILLEGAL_FD` (R360). -/
def execIllegalFD (s : State) : Out := illegalOpcode 0xFD s

end Sys2Proof.Machine
end

