-- ==== Sys2Proof/Machine/Fetch.lean ====
section
/-! DEFINITION. Fetching an instruction's bytes (R15, R100, R102, R422), and placing a word where the next fetch finds
it. -/

namespace Sys2Proof.Machine

/-- The state after the opcode's fetch (R100): `addr` is latched and PC advances by 1, except that with the halt bug
armed the byte is read 'without incrementing PC' and the bit is cleared (R422). -/
def State.afterOpcode (s : State) : State :=
  { s.afterRead s.pc with
    opAddr := s.pc
    pc := if s.haltBugArmed then s.pc else s.pc + 1
    haltBugArmed := false }

/-- The state after `fetch8()` (R15). -/
def State.afterByte (s : State) : State := { s.afterRead s.pc with pc := s.pc + 1 }

/-- The values of `n` successive `fetch8()` (R15). -/
def State.nextBytes : Nat → State → List Byte
  | 0, _ => []
  | n + 1, s => s.peek s.pc :: State.nextBytes n s.afterByte

/-- The state after `n` successive `fetch8()`. -/
def State.afterBytes : Nat → State → State
  | 0, s => s
  | n + 1, s => State.afterBytes n s.afterByte

/-- The bytes of the next instruction: the opcode at PC, and as many more as it asks for (R102), read after the
opcode's fetch. -/
def State.fetchedBytes (s : State) : List Byte :=
  s.peek s.pc :: State.nextBytes (opLength (s.peek s.pc) - 1) s.afterOpcode

/-- The state after the whole instruction has been fetched. -/
def State.afterFetch (s : State) : State := State.afterBytes (opLength (s.peek s.pc) - 1) s.afterOpcode

/-- Bytes placed in memory from an address on, modulo 2^16 (no access of the core: nothing is recorded). -/
def placeBytes (m : Memory) (a : Word) : List Byte → Memory
  | [] => m
  | v :: vs => placeBytes (m.write a.toNat v) (a + 1) vs

/-- The state in which the next step fetches exactly these bytes at PC. What would keep a step from fetching there is
taken away, and nothing else: a bus other than the reference bus (which need not return what is stored), STOP, HALT, the
lock's fault, the armed halt bug (whose opcode fetch does not advance PC), and IME if an interrupt is pending once the
bytes are in place (R400; notes/assumptions/13.md). -/
def State.placeAtPc (s : State) (bytes : List Byte) : State :=
  let s1 := { s with
    mem := placeBytes s.mem s.pc bytes
    config := { s.config with bus := .reference }
    stopped := false
    halted := false
    haltBugArmed := false
    fault := if s.config.illegalPolicy = IllegalPolicy.lock then none else s.fault }
  { s1 with ime := s1.ime && (s1.pending == 0) }

end Sys2Proof.Machine
end

