-- ==== Sys2Proof/Machine/Timer.lean ====
section
/-! DEFINITION. The timer subsystem (R430 to R435): DIV, TIMA, TMA, TAC through the bus, and the two sub-counters.

The pseudocode of R430 drains each accumulator in a loop, `while acc >= period: acc <- acc - period; tick`. The period
does not change in the loop, so the loop ticks `acc / period` times and leaves `acc % period`; the laws file
Laws/Timer.lean proves that the operations below satisfy the loop's own equations. -/

namespace Sys2Proof.Machine

/-- Clocks per DIV increment (R431). -/
def divPeriod : Nat := 256

/-- One DIV increment: `MemWrite(DIV, 1, (MemRead(DIV, 1) + 1) mod 256)` (R430). -/
def State.divTick (s : State) : State := (s.afterRead addrDiv).timerWrite8 addrDiv (s.peek addrDiv + 1)

/-- `n` DIV increments. -/
def State.divTicks : Nat → State → State
  | 0, s => s
  | n + 1, s => State.divTicks n s.divTick

/-- The timer's request (R412, R433): IF bit 2 is set by the read-modify-write of `requestInterrupt(2)`. -/
def State.timerRequest (s : State) : State :=
  (s.afterRead addrIf).timerWrite8 addrIf (s.peek addrIf ||| bitMask Irq.timer.bit)

/-- One TIMA increment (R430, R433): past 0xFF it is reloaded from TMA and the Timer request bit is set. -/
def State.timaTick (s : State) : State :=
  let t := s.peek addrTima
  let s1 := s.afterRead addrTima
  if t = 0xFF then ((s1.afterRead addrTma).timerWrite8 addrTima (s1.peek addrTma)).timerRequest
  else s1.timerWrite8 addrTima (t + 1)

/-- `n` TIMA increments. -/
def State.timaTicks : Nat → State → State
  | 0, s => s
  | n + 1, s => State.timaTicks n s.timaTick

/-- The TIMA period in clocks that TAC bits 1..0 select: 1024, 16, 64, 256 (R49, R432). -/
def timaPeriod (tac : Byte) : Nat :=
  match field tac 0 2 with
  | 0 => 1024
  | 1 => 16
  | 2 => 64
  | _ => 256

/-- The DIV loop of R430 on the accumulator `acc`. -/
def State.drainDiv (acc : Nat) (s : State) : State :=
  State.divTicks (acc / divPeriod) { s with divAcc := acc % divPeriod }

/-- The TIMA loop of R430 on the accumulator `acc` with the selected period. -/
def State.drainTima (period acc : Nat) (s : State) : State :=
  State.timaTicks (acc / period) { s with timaAcc := acc % period }

/-- The TIMA half of `timer(m)`: TAC is read, and if its bit 2 is 1 the clocks are counted (R430, R432). -/
def State.timerTima (clocks : Nat) (s : State) : State :=
  let tac := s.peek addrTac
  let s1 := s.afterRead addrTac
  if tac.getLsbD 2 then s1.drainTima (timaPeriod tac) (s1.timaAcc + clocks) else s1

/-- `timer(m)`: advances the timer by m M-cycles, that is 4·m clocks (R430). -/
def State.timer (m : Nat) (s : State) : State :=
  (s.drainDiv (s.divAcc + 4 * m)).timerTima (4 * m)

end Sys2Proof.Machine
end

