-- ==== Sys2Proof/Machine/Run.lean ====
section
/-! DEFINITION. The parts of the step of R400. -/

namespace Sys2Proof.Machine

/-- Part 1's test: stopped, or locked by a recorded illegal opcode (R400, R403, R404). -/
def State.isStuck (s : State) : Bool :=
  s.stopped || (s.config.illegalPolicy == .lock && s.fault.isSome)

/-- A stuck step (R401, R403, R404): nothing changes; the outcome says so. -/
def stuckStep (s : State) : State := { s with outcome := some .stuck }

/-- An idle step (R402): 1 M-cycle, which the timer counts. -/
def idleStep (s : State) : State := State.timer 1 { s with outcome := some (.idle 1) }

/-- A dispatch step (R400 part 3, R416, R417): 5 M-cycles, which the timer counts. -/
def dispatchStep (k : Irq) (s : State) : State :=
  State.timer 5 { s.takeInterrupt k with outcome := some (.dispatch k 5) }

/-- The end of part 4: the EI delay, then the timer with the instruction's cost (R400). -/
def State.retire (arm : Bool) (t : State) : State := State.timer t.cycles (t.finishEi arm)

/-- Part 4: execute one instruction (R400, R100). -/
def executeOne (s : State) : Out :=
  match decode s.fetchedBytes with
  | .ok i _ =>
    match exec i s.afterFetch with
    | .next t => .next (t.retire s.eiPending)
    | .fault r => .fault r
    | .refused r => .refused r
  | .reject _ => .fault (.undecodable s.fetchedBytes)

/-- Parts 3 and 4: the interrupt check, which reads `pending()` once and only when IME = 1 (D28), and the dispatch or
the instruction. -/
def interruptOrExecute (s : State) : Out :=
  if s.ime then
    match lowestIrq s.pending with
    | some k => .next (dispatchStep k s.afterPending)
    | none => executeOne s.afterPending
  else executeOne s

/-- Part 2: the HALT wake or an idle step (R421, R402); then parts 3 and 4. -/
def wakeOrGoOn (s : State) : Out :=
  if s.halted then
    if s.pending = 0 then .next (idleStep s.afterPending)
    else interruptOrExecute { s.afterPending with halted := false }
  else interruptOrExecute s

/-- The step of R400, its access record begun anew. -/
def runStep (s : State) : Out :=
  if s.isStuck then .next (stuckStep { s with trace := [] }) else wakeOrGoOn { s with trace := [] }

/-- The state after part 2 of R400 in a step that goes on: a halted core has read `pending()` and is awake. -/
def State.woken (s : State) : State :=
  if s.halted then { ({ s with trace := [] } : State).afterPending with halted := false } else { s with trace := [] }

/-- The state after part 3 of R400 in a step that goes on: the interrupt check has read `pending()` exactly when IME
is 1. An instruction is fetched in this state. -/
def State.checked (s : State) : State := if s.woken.ime then s.woken.afterPending else s.woken

end Sys2Proof.Machine
end

