-- ==== Sys2Proof/Machine/Step.lean ====
section
/-! DEFINITION. The one transition of the core, `step` (R400), and the placing of a word of the opcode table where it
fetches next. -/

namespace Sys2Proof.Machine

/-- `step(trace)` of R400; the `trace` argument has no effect on state and is dropped, as R406 allows
(Machine/HostInputs.lean gives its text). -/
def step (s : State) : Host.Outcome State Fault Refusal := runStep s

/-- `s` with the instruction of a word of spec/opcode_table.json placed where `step` fetches its next one. -/
def State.withFetchWord (s : State) (nbits w : Nat) : State := s.placeAtPc (tableBytes nbits w)

end Sys2Proof.Machine
end

