-- ==== Sys2Proof/Machine/Tables.lean ====
section
/-! DEFINITION. What the opcode maps R112 and R113 say of each row, as tables that statements compare the meanings
with: the M-cycles (taken and not taken) and the flag column. `exec` reads none of them. -/

namespace Sys2Proof

/-- The condition of a conditional transfer (R106); none for every other row. -/
def Instr.condition : Instr → Option Cond
  | .jrNzR8 _ | .retNz | .jpNzA16 _ | .callNzA16 _ => some .nz
  | .jrZR8 _ | .retZ | .jpZA16 _ | .callZA16 _ => some .z
  | .jrNcR8 _ | .retNc | .jpNcA16 _ | .callNcA16 _ => some .nc
  | .jrCR8 _ | .retC | .jpCA16 _ | .callCA16 _ => some .c
  | _ => none

/-- The M-cycles of a row that is not a conditional transfer not taken (R112, R113): the `cycles` column of the opcode
table. A CB row's total includes the prefix's own M-cycle; `prefixCb` counts what its CB opcode's row counts (R345). -/
def Instr.takenCycles : Instr → Nat
  | .nop | .incB | .decB | .rlca | .incC | .decC | .rrca | .stop _ | .incD | .decD | .rla | .incE | .decE | .rra
  | .incH | .decH | .daa | .incL | .decL | .cpl | .scf | .incA | .decA | .ccf | .ldBB | .ldBC | .ldBD | .ldBE
  | .ldBH | .ldBL | .ldBA | .ldCB | .ldCC | .ldCD | .ldCE | .ldCH | .ldCL | .ldCA | .ldDB | .ldDC | .ldDD | .ldDE
  | .ldDH | .ldDL | .ldDA | .ldEB | .ldEC | .ldED | .ldEE | .ldEH | .ldEL | .ldEA | .ldHB | .ldHC | .ldHD | .ldHE
  | .ldHH | .ldHL | .ldHA | .ldLB | .ldLC | .ldLD | .ldLE | .ldLH | .ldLL | .ldLA | .halt | .ldAB | .ldAC | .ldAD
  | .ldAE | .ldAH | .ldAL | .ldAA | .addAB | .addAC | .addAD | .addAE | .addAH | .addAL | .addAA | .adcAB | .adcAC
  | .adcAD | .adcAE | .adcAH | .adcAL | .adcAA | .subB | .subC | .subD | .subE | .subH | .subL | .subA | .sbcAB
  | .sbcAC | .sbcAD | .sbcAE | .sbcAH | .sbcAL | .sbcAA | .andB | .andC | .andD | .andE | .andH | .andL | .andA
  | .xorB | .xorC | .xorD | .xorE | .xorH | .xorL | .xorA | .orB | .orC | .orD | .orE | .orH | .orL | .orA | .cpB
  | .cpC | .cpD | .cpE | .cpH | .cpL | .cpA | .illegalD3 | .illegalDB | .illegalDD | .illegalE3 | .illegalE4 | .jpHl
  | .illegalEB | .illegalEC | .illegalED | .di | .illegalF4 | .ei | .illegalFC | .illegalFD => 1
  | .ldBcD16 _ | .ldDeD16 _ | .jrR8 _ | .jrNzR8 _ | .ldHlD16 _ | .jrZR8 _ | .jrNcR8 _ | .ldSpD16 _ | .incAtHl
  | .decAtHl | .ldAtHlD8 _ | .jrCR8 _ | .popBc | .popDe | .ldhAtA8A _ | .popHl | .ldhAAtA8 _ | .popAf | .ldHlSpR8 _
  | .bit0AtHl | .bit1AtHl | .bit2AtHl | .bit3AtHl | .bit4AtHl | .bit5AtHl | .bit6AtHl | .bit7AtHl => 3
  | .jpNzA16 _ | .jpA16 _ | .pushBc | .rst00 | .ret | .jpZA16 _ | .rst08 | .jpNcA16 _ | .pushDe | .rst10 | .reti
  | .jpCA16 _ | .rst18 | .pushHl | .rst20 | .addSpR8 _ | .ldAtA16A _ | .rst28 | .pushAf | .rst30 | .ldAAtA16 _
  | .rst38 | .rlcAtHl | .rrcAtHl | .rlAtHl | .rrAtHl | .slaAtHl | .sraAtHl | .swapAtHl | .srlAtHl | .res0AtHl
  | .res1AtHl | .res2AtHl | .res3AtHl | .res4AtHl | .res5AtHl | .res6AtHl | .res7AtHl | .set0AtHl | .set1AtHl
  | .set2AtHl | .set3AtHl | .set4AtHl | .set5AtHl | .set6AtHl | .set7AtHl => 4
  | .ldAtA16Sp _ | .retNz | .retZ | .retNc | .retC => 5
  | .callNzA16 _ | .callZA16 _ | .callA16 _ | .callNcA16 _ | .callCA16 _ => 6
  | .prefixCb op2 => if Machine.field op2 0 3 = 6 then (if Machine.field op2 6 2 = 1 then 3 else 4) else 2
  | _ => 2

/-- The M-cycles of a conditional transfer that is not taken (R307, R310, R312, R314): the `cycles_not_taken` column;
every other row's `takenCycles`. -/
def Instr.notTakenCycles : Instr → Nat
  | .jrNzR8 _ | .jrZR8 _ | .jrNcR8 _ | .jrCR8 _ | .retNz | .retZ | .retNc | .retC => 2
  | .jpNzA16 _ | .callNzA16 _ | .jpZA16 _ | .callZA16 _ | .jpNcA16 _ | .callNcA16 _ | .jpCA16 _ | .callCA16 _ => 3
  | i => i.takenCycles

/-- One flag's entry in the flag column of R112 and R113. -/
inductive FlagEffect where
  /-- `-`: unchanged. -/
  | keep
  /-- `0`: forced to 0. -/
  | zero
  /-- `1`: forced to 1. -/
  | one
  /-- A letter: computed, as the row's rule says. -/
  | computed
deriving DecidableEq, Repr

/-- The flag column of a row: Z, N, H, C in that order. -/
structure FlagRow where
  z : FlagEffect
  n : FlagEffect
  h : FlagEffect
  c : FlagEffect
deriving DecidableEq, Repr

/-- The flag column of R112 and R113. `prefixCb`'s flags are 'those of the CB operation' (R345), so its row is read
from the CB opcode's group (R109): BIT, RES and SET, or a rotate or shift, of which SWAP alone (110) clears C. -/
def Instr.flagRow : Instr → FlagRow
  | .incB | .incC | .incD | .incE | .incH | .incL | .incAtHl | .incA => ⟨.computed, .zero, .computed, .keep⟩
  | .decB | .decC | .decD | .decE | .decH | .decL | .decAtHl | .decA => ⟨.computed, .one, .computed, .keep⟩
  | .rlca | .rrca | .rla | .rra => ⟨.zero, .zero, .zero, .computed⟩
  | .addHlBc | .addHlDe | .addHlHl | .addHlSp => ⟨.keep, .zero, .computed, .computed⟩
  | .daa => ⟨.computed, .keep, .zero, .computed⟩
  | .cpl => ⟨.keep, .one, .one, .keep⟩
  | .scf => ⟨.keep, .zero, .zero, .one⟩
  | .ccf => ⟨.keep, .zero, .zero, .computed⟩
  | .addAB | .addAC | .addAD | .addAE | .addAH | .addAL | .addAAtHl | .addAA | .adcAB | .adcAC | .adcAD | .adcAE
  | .adcAH | .adcAL | .adcAAtHl | .adcAA | .addAD8 _ | .adcAD8 _ => ⟨.computed, .zero, .computed, .computed⟩
  | .subB | .subC | .subD | .subE | .subH | .subL | .subAtHl | .subA | .sbcAB | .sbcAC | .sbcAD | .sbcAE | .sbcAH
  | .sbcAL | .sbcAAtHl | .sbcAA | .cpB | .cpC | .cpD | .cpE | .cpH | .cpL | .cpAtHl | .cpA | .subD8 _ | .sbcAD8 _
  | .cpD8 _ => ⟨.computed, .one, .computed, .computed⟩
  | .andB | .andC | .andD | .andE | .andH | .andL | .andAtHl | .andA | .andD8 _ => ⟨.computed, .zero, .one, .zero⟩
  | .xorB | .xorC | .xorD | .xorE | .xorH | .xorL | .xorAtHl | .xorA | .orB | .orC | .orD | .orE | .orH | .orL
  | .orAtHl | .orA | .xorD8 _ | .orD8 _ | .swapB | .swapC | .swapD | .swapE | .swapH | .swapL | .swapAtHl | .swapA => ⟨.computed, .zero, .zero, .zero⟩
  | .addSpR8 _ | .ldHlSpR8 _ => ⟨.zero, .zero, .computed, .computed⟩
  | .popAf => ⟨.computed, .computed, .computed, .computed⟩
  | .rlcB | .rlcC | .rlcD | .rlcE | .rlcH | .rlcL | .rlcAtHl | .rlcA | .rrcB | .rrcC | .rrcD | .rrcE | .rrcH | .rrcL
  | .rrcAtHl | .rrcA | .rlB | .rlC | .rlD | .rlE | .rlH | .rlL | .rlAtHl | .rlA | .rrB | .rrC | .rrD | .rrE | .rrH
  | .rrL | .rrAtHl | .rrA | .slaB | .slaC | .slaD | .slaE | .slaH | .slaL | .slaAtHl | .slaA | .sraB | .sraC | .sraD
  | .sraE | .sraH | .sraL | .sraAtHl | .sraA | .srlB | .srlC | .srlD | .srlE | .srlH | .srlL | .srlAtHl | .srlA => ⟨.computed, .zero, .zero, .computed⟩
  | .bit0B | .bit0C | .bit0D | .bit0E | .bit0H | .bit0L | .bit0AtHl | .bit0A | .bit1B | .bit1C | .bit1D | .bit1E
  | .bit1H | .bit1L | .bit1AtHl | .bit1A | .bit2B | .bit2C | .bit2D | .bit2E | .bit2H | .bit2L | .bit2AtHl | .bit2A
  | .bit3B | .bit3C | .bit3D | .bit3E | .bit3H | .bit3L | .bit3AtHl | .bit3A | .bit4B | .bit4C | .bit4D | .bit4E
  | .bit4H | .bit4L | .bit4AtHl | .bit4A | .bit5B | .bit5C | .bit5D | .bit5E | .bit5H | .bit5L | .bit5AtHl | .bit5A
  | .bit6B | .bit6C | .bit6D | .bit6E | .bit6H | .bit6L | .bit6AtHl | .bit6A | .bit7B | .bit7C | .bit7D | .bit7E
  | .bit7H | .bit7L | .bit7AtHl | .bit7A => ⟨.computed, .zero, .one, .keep⟩
  | .prefixCb op2 =>
    match Machine.field op2 6 2 with
    | 0 => if Machine.field op2 3 3 = 6 then ⟨.computed, .zero, .zero, .zero⟩ else ⟨.computed, .zero, .zero, .computed⟩
    | 1 => ⟨.computed, .zero, .one, .keep⟩
    | _ => ⟨.keep, .keep, .keep, .keep⟩
  | _ => ⟨.keep, .keep, .keep, .keep⟩

end Sys2Proof
end

