-- ==== Sys2Proof/Machine/HostInputs.lean ====
section
/-! DEFINITION. What the host does to a running core between steps (R438): the inputs `requestInterrupt`, bus access,
`wake` and `reset`, what each gives back, and `step(trace)` with its text (R406). -/

namespace Sys2Proof.Machine

/-- An input of the host (R438), taken between steps, never inside one (R80, R507). -/
inductive HostInput where
  /-- `requestInterrupt(k)` (R412). -/
  | requestInterrupt (k : Irq)
  /-- A `read8` of the bus by the host or a device. -/
  | busRead (a : Word)
  /-- A `write8` of the bus by the host or a device. -/
  | busWrite (a : Word) (v : Byte)
  /-- `wake()` (R423). -/
  | wake
  /-- `reset(profile)` (R500). -/
  | reset (p : BootProfile)
deriving DecidableEq, Repr

/-- What an input changes (R438). The host's own bus accesses are not the core's, so they are not recorded. -/
def applyInput (x : HostInput) (s : State) : State :=
  match x with
  | .requestInterrupt k => s.requestIrq k
  | .busRead a => { s with mem := s.config.bus.afterRead8 s.mem a }
  | .busWrite a v => { s with mem := s.config.bus.afterWrite8 s.mem false a v }
  | .wake => { s with stopped := false }
  | .reset p => State.afterReset p s.mem s.config

/-- What the host gets back from an input (R438): the byte of a bus read, otherwise nothing. -/
def inputAnswer (x : HostInput) (s : State) : Option Byte :=
  match x with
  | .busRead a => some (s.peek a)
  | _ => none

/-- One event of a run: a step of the core, or an input of the host (R80, R438). -/
inductive Event where
  | step
  | input (x : HostInput)
deriving DecidableEq, Repr

/-- One event. -/
def runEvent (ev : Event) (s : State) : Out :=
  match ev with
  | .step => step s
  | .input x => .next (applyInput x s)

/-- A sequence of events, up to the first fault or refusal. -/
def runEvents : List Event → State → Out
  | [], s => .next s
  | ev :: evs, s =>
    match runEvent ev s with
    | .next t => runEvents evs t
    | .fault r => .fault r
    | .refused r => .refused r

/-- `step(trace)` (R406): when `trace` is true the host also gets the text of 'the opcode just executed', if the step
executed one (its bytes are those the step fetches, after its checks); the step itself is the same. -/
def stepTraced (trace : Bool) (s : State) : Out × Option String :=
  match step s with
  | .next t =>
    match trace, t.outcome with
    | true, some (.executed _) =>
      match decode s.checked.fetchedBytes with
      | .ok i _ => (.next t, some i.text)
      | .reject _ => (.next t, none)
    | _, _ => (.next t, none)
  | .fault r => (.fault r, none)
  | .refused r => (.refused r, none)

end Sys2Proof.Machine
end

