-- ==== Sys2Proof/Safety.lean ====
section
/-! DEFINITION. The terms that claims about the machine use: the invariant of its states, runs and when they are over
(R508), what a store does to memory, the field codes of R104 to R110 as numbers, and the flag unit's formulas on
integers, as R140, R141, R200 and R201 write them. `exec` and `step` use nothing of this file. -/

namespace Sys2Proof.Machine

/-! ### The invariant -/

/-- The opcodes of the eleven illegal slots, in the order of R115. -/
def illegalOpcodes : List Byte := [0xD3, 0xDB, 0xDD, 0xE3, 0xE4, 0xEB, 0xEC, 0xED, 0xF4, 0xFC, 0xFD]

/-- `BUS` is the reference bus (R84), its default: 65,536 bytes of storage, with no side effects. -/
def State.flat (s : State) : Prop := s.config.bus = .reference

/-- The bus stores the timer's own writes to DIV, TIMA and IF as written (R76): a read then returns the byte. -/
def StoresTimerWrites (bus : Bus) : Prop :=
  ∀ (m : Memory) (a : Word) (v : Byte), a = addrDiv ∨ a = addrTima ∨ a = addrIf →
    bus.read8 (bus.afterWrite8 m true a v) a = v

/-- What holds of every state that a run from reset reaches: the bus's storage is in its canonical form, and on the
reference bus it is the 65,536 bytes of R84; the sub-counters are in the ranges of R45 and R46; the core is in at most one of
HALT, STOP and the armed halt bug, with no EI delay pending in any of them (each is entered by an instruction that runs
alone and ends the delay, R400 part 4, R405); the halt bug is armed only under `HALT_BUG = true` (R44); and a recorded
fault names an illegal opcode (R47, R115). -/
structure State.Inv (s : State) : Prop where
  memory : s.mem.wf = true
  flatStorage : s.flat → s.mem.inAddressSpace = true
  divAcc : s.divAcc < 256
  timaAcc : s.timaAcc < 1024
  haltedAlone : s.halted = true → s.stopped = false ∧ s.haltBugArmed = false ∧ s.eiPending = false
  stoppedAlone : s.stopped = true → s.haltBugArmed = false ∧ s.eiPending = false
  armedAlone : s.haltBugArmed = true → s.config.haltBug = true ∧ s.eiPending = false
  faultIllegal : ∀ r, s.fault = some r → r.op ∈ illegalOpcodes

/-! ### Runs (R508) -/

/-- `n` steps of the core, up to the first fault or refusal. -/
def runSteps : Nat → State → Out
  | 0, s => .next s
  | n + 1, s =>
    match step s with
    | .next t => runSteps n t
    | .fault r => .fault r
    | .refused r => .refused r

/-- A run is over in a state from which a step is `Stuck`, or, for a proof, whose PC is the designated end (R508). -/
def RunOver (endAt : Option Word) (s : State) : Prop := s.isStuck = true ∨ endAt = some s.pc

/-- `n` steps lead from `s` to `t`, none of them from a state in which the run is over. -/
def RunsTo (endAt : Option Word) : Nat → State → State → Prop
  | 0, s, t => s = t
  | n + 1, s, t => ¬ RunOver endAt s ∧ ∃ u, step s = .next u ∧ RunsTo endAt n u t

/-- No illegal opcode has been recorded. R508: 'A claim about a run must take no fault recorded as a premise of its
own.' -/
def State.Clean (s : State) : Prop := s.fault = none

/-! ### Stores and frames -/

/-- From `s` to `t`, memory changes at most at `a`, which then reads as `v`. -/
def StoresByte (s t : State) (a : Word) (v : Byte) : Prop :=
  t.peek a = v ∧ ∀ x, x ≠ a → t.peek x = s.peek x

/-- From `s` to `t`, memory changes at most at `a` and `a + 1` (modulo 2^16), which then read as the low and the high
byte of `v` (R72, R77). -/
def StoresWord (s t : State) (a v : Word) : Prop :=
  t.peek a = lowByte v ∧ t.peek (a + 1) = highByte v ∧ ∀ x, x ≠ a → x ≠ a + 1 → t.peek x = s.peek x

/-- The two accesses of `pending()` (R411), IE first, with the bytes they return in `s`. -/
def pendingReads (s : State) : List BusAccess :=
  [.read 0xFFFF (s.peek 0xFFFF), .read 0xFF0F ((s.afterRead 0xFFFF).peek 0xFF0F)]

/-- A state without the model's own record of accesses, latched opcode address and last outcome: what the spec gives
the machine (R401), with the parameters. -/
def State.arch (s : State) : State := { s with trace := [], opAddr := 0, outcome := none }

/-! ### Field codes (R104 to R110) -/

/-- A byte from a number. -/
def byteOf (n : Nat) : Byte := BitVec.ofNat 8 n

/-- The register code of R104. -/
def regCode : Reg8 → Nat
  | .b => 0 | .c => 1 | .d => 2 | .e => 3 | .h => 4 | .l => 5 | .a => 7

/-- The register code of an operand, 110 for (HL) (R104). -/
def opndCode : Opnd8 → Nat
  | .reg r => regCode r
  | .atHl => 6

/-- Pair code, group 1 (R105). -/
def pair1Code : Pair1 → Nat
  | .bc => 0 | .de => 1 | .hl => 2 | .sp => 3

/-- Pair code, group 2 (R105). -/
def pair2Code : Pair2 → Nat
  | .bc => 0 | .de => 1 | .hl => 2 | .af => 3

/-- Condition code (R106). -/
def condCode : Cond → Nat
  | .nz => 0 | .z => 1 | .nc => 2 | .c => 3

/-- ALU operation code (R107). -/
def aluCode : AluOp → Nat
  | .add => 0 | .adc => 1 | .sub => 2 | .sbc => 3 | .and => 4 | .xor => 5 | .or => 6 | .cp => 7

/-- CB rotate and shift code (R110). -/
def rotCode : RotOp → Nat
  | .rlc => 0 | .rrc => 1 | .rl => 2 | .rr => 3 | .sla => 4 | .sra => 5 | .swap => 6 | .srl => 7

/-- The restart field `ttt` (R108). -/
def rstCode : RstVec → Nat
  | .v00 => 0 | .v08 => 1 | .v10 => 2 | .v18 => 3 | .v20 => 4 | .v28 => 5 | .v30 => 6 | .v38 => 7

/-! ### The flag unit on integers, as the rules write it -/

/-- `add8(a, b, c)` of R140: `r <- a + b + c`, `cb <- a ^ b ^ r`, on unbounded integers. -/
def specAdd8 (a b : Byte) (c : Bool) : AluOut :=
  let r := a.toNat + b.toNat + c.toNat
  let cb := a.toNat ^^^ b.toNat ^^^ r
  ⟨byteOf (r % 256), ⟨decide (r % 256 = 0), false, cb.testBit 4, cb.testBit 8⟩⟩

/-- `sub8(a, b, c)` of R141: `r <- a - b - c`, `cb <- (a ^ b ^ r) mod 512` (the two's complement bits of r). -/
def specSub8 (a b : Byte) (c : Bool) : AluOut :=
  let r : Int := (a.toNat : Int) - (b.toNat : Int) - (c.toNat : Int)
  let cb := (a.toNat ^^^ b.toNat ^^^ (r % 512).toNat) % 512
  ⟨byteOf (r % 256).toNat, ⟨decide (r % 256 = 0), true, cb.testBit 4, cb.testBit 8⟩⟩

/-- `add16(a, b)` of R200. -/
def specAdd16 (a b : Word) : Add16Out :=
  let r := a.toNat + b.toNat
  let cb := a.toNat ^^^ b.toNat ^^^ r
  ⟨BitVec.ofNat 16 (r % 65536), cb.testBit 12, cb.testBit 16⟩

/-- `sext_16(d)` of R12: `d - 256` if bit 7 is 1, else d, taken modulo 2^16. -/
def specSext16 (d : Byte) : Nat := if d.toNat < 128 then d.toNat else d.toNat + 65280

/-- `sp_plus(sp, d)` of R201. -/
def specSpPlus (mode : AddSpFlags) (sp : Word) (d : Byte) : Add16Out :=
  let e := specSext16 d
  let r := sp.toNat + e
  let cb := sp.toNat ^^^ e ^^^ r
  match mode with
  | .doc16 => ⟨BitVec.ofNat 16 (r % 65536), cb.testBit 12, cb.testBit 16⟩
  | .hw8 => ⟨BitVec.ofNat 16 (r % 65536), cb.testBit 4, cb.testBit 8⟩

/-- A rotate or shift of R225 to R240 as its rule writes it: the result `res` and the bit `co` that goes to C. -/
def specRotate (op : RotOp) (v : Byte) (c : Bool) : RotOut :=
  let n := v.toNat
  let co7 := n.testBit 7
  let co0 := n.testBit 0
  match op with
  | .rlc => ⟨byteOf ((n * 2) % 256 ||| co7.toNat), co7⟩
  | .rrc => ⟨byteOf (n / 2 ||| co0.toNat * 0x80), co0⟩
  | .rl => ⟨byteOf ((n * 2) % 256 ||| c.toNat), co7⟩
  | .rr => ⟨byteOf (n / 2 ||| c.toNat * 0x80), co0⟩
  | .sla => ⟨byteOf ((n * 2) % 256), co7⟩
  | .sra => ⟨byteOf (n / 2 ||| (n &&& 0x80)), co0⟩
  | .swap => ⟨byteOf ((n % 16) * 16 ||| n / 16), false⟩
  | .srl => ⟨byteOf (n / 2), co0⟩

/-! ### The timer's loops, as R430 writes them -/

/-- `while div_acc >= 256: div_acc <- div_acc - 256; MemWrite(DIV, 1, (MemRead(DIV, 1) + 1) mod 256)`, at most `fuel`
times round. -/
def specDivLoop : Nat → State → State
  | 0, s => s
  | fuel + 1, s =>
    if s.divAcc ≥ 256 then
      let s1 := { s with divAcc := s.divAcc - 256 }
      specDivLoop fuel ((s1.afterRead addrDiv).timerWrite8 addrDiv (s1.peek addrDiv + 1))
    else s

/-- One turn of R430's TIMA loop after the subtraction. -/
def specTimaTurn (s : State) : State :=
  let t := s.peek addrTima
  let s1 := s.afterRead addrTima
  if t = 0xFF then
    let s2 := (s1.afterRead addrTma).timerWrite8 addrTima (s1.peek addrTma)
    (s2.afterRead addrIf).timerWrite8 addrIf (s2.peek addrIf ||| 0x04)
  else s1.timerWrite8 addrTima (t + 1)

/-- `while tima_acc >= period: ...` of R430, at most `fuel` times round. -/
def specTimaLoop (period : Nat) : Nat → State → State
  | 0, s => s
  | fuel + 1, s =>
    if s.timaAcc ≥ period then
      specTimaLoop period fuel (specTimaTurn { s with timaAcc := s.timaAcc - period })
    else s

/-- The period that TAC bits 1..0 select: `[1024, 16, 64, 256][tac[1:0]]` (R430). -/
def specPeriod (tac : Byte) : Nat := [1024, 16, 64, 256].getD (tac.toNat % 4) 0

/-- `timer(m)` of R430. Every turn of a loop lowers its accumulator, so an accumulator's worth of turns is enough. -/
def specTimer (m : Nat) (s : State) : State :=
  let clocks := 4 * m
  let s1 := { s with divAcc := s.divAcc + clocks }
  let s2 := specDivLoop s1.divAcc s1
  let tac := s2.peek addrTac
  let s3 := s2.afterRead addrTac
  if tac.getLsbD 2 then
    let s4 := { s3 with timaAcc := s3.timaAcc + clocks }
    specTimaLoop (specPeriod tac) s4.timaAcc s4
  else s3

/-- TIMA's value after one increment (R433). -/
def timaNext (tma t : Byte) : Byte := if t = 0xFF then tma else t + 1

/-- TIMA's value after `n` increments. -/
def timaAfter (tma : Byte) : Nat → Byte → Byte
  | 0, t => t
  | n + 1, t => timaAfter tma n (timaNext tma t)

end Sys2Proof.Machine
end

