-- ==== Sys2Proof/Certificates/Slice0/Obligations.lean ====
section
/-! DEFINITION. The statements for the provers.

A result statement gives the WHOLE next state as a record update of the state before or of the state after the
instruction's bus accesses, so every field it does not mention is unchanged (its frame), and it says at once that the
instruction completes on every state, whatever `BUS` is. `s.peek a` is the byte a read of `a` returns,
`s.afterRead a` and `s.write8 a v` are the states after an access: they change the bus's state and the record of accesses
`trace` alone (BusReturnsTheByteLastWritten), and on the reference bus (`s.flat`) a read changes no byte and a write the
one byte it names; a storing form says so through the read of one byte (`StoresByte`, `StoresWord`). `outcome` gives the
M-cycles (R16). An instruction's meaning starts with PC after the whole instruction (R33). -/

section
open Sys2Proof Sys2Proof.Machine

/-! ### Encoding and decoding -/

/-- R101 to R118: no bit of an encoding is dropped. Every decoded instruction, with every immediate, whatever bytes
follow it. -/
def Obligations.DecodeOfEncode : Prop :=
  ∀ (i : Instr) (rest : List Byte), i.wellFormed = true → decode (encode i ++ rest) = .ok i rest

/-- R101 to R118, the other direction: the bytes an instruction was decoded from are its encoding, so each byte
sequence has one meaning and what is decoded is well formed. -/
def Obligations.EncodeOfDecode : Prop :=
  ∀ (bytes rest : List Byte) (i : Instr), decode bytes = .ok i rest →
    i.wellFormed = true ∧ encode i ++ rest = bytes

/-- R115: the slots bound to the illegal-opcode operation are exactly the eleven, and the CB table has none. That the
decoder rejects bytes when, and only when, they are fewer than the first one asks for is the model's choice
(notes/assumptions/16.md, DESIGN CHOICE): the spec has no rejection. -/
def Obligations.IllegalSlotsAreExactlyEleven : Prop :=
  (∀ op b1 b2 : Byte,
    (∃ k rest, decode [op, b1, b2] = .ok (Instr.illegal k) rest) ↔
      op ∈ ([0xD3, 0xDB, 0xDD, 0xE3, 0xE4, 0xEB, 0xEC, 0xED, 0xF4, 0xFC, 0xFD] : List Byte)) ∧
  (∀ (op2 : Byte) (k : IllegalSlot), cbEntry op2 ≠ Instr.illegal k) ∧
  (∀ bytes : List Byte,
    (∃ e, decode bytes = .reject e) ↔ (bytes = [] ∨ bytes.length < opLength (bytes.headD 0)))

/-- R102: lengths are 1, 2 or 3 bytes, the first byte alone gives the length, and every CB instruction has 2. -/
def Obligations.LengthIsAFunctionOfTheFirstByte : Prop :=
  (∀ i : Instr, (encode i).length = 1 ∨ (encode i).length = 2 ∨ (encode i).length = 3) ∧
  (∀ i j : Instr, (encode i).head? = (encode j).head? → (encode i).length = (encode j).length) ∧
  (∀ i : Instr, (encode i).head? = some 0xCB → (encode i).length = 2)

/-- R104 to R110: the field codes and where the fields stand, for every row that has one (HALT stands in the place
of LD (HL),(HL)); what the register code, the condition code and the restart field select; bit 3 of the pair rows. -/
def Obligations.EncodingFieldsFollowTheCodes : Prop :=
  (∀ dst o : Opnd8, encode (Instr.ld8 dst o) = [byteOf (0x40 + 8 * opndCode dst + opndCode o)]) ∧
  (∀ (op : AluOp) (o : Opnd8), encode (Instr.alu op o) = [byteOf (0x80 + 8 * aluCode op + opndCode o)]) ∧
  (∀ (op : AluOp) (v : Byte), encode (Instr.aluImm op v) = [byteOf (0xC6 + 8 * aluCode op), v]) ∧
  (∀ o : Opnd8, encode (Instr.inc8 o) = [byteOf (0x04 + 8 * opndCode o)] ∧
    encode (Instr.dec8 o) = [byteOf (0x05 + 8 * opndCode o)]) ∧
  (∀ (o : Opnd8) (v : Byte), encode (Instr.ld8Imm o v) = [byteOf (0x06 + 8 * opndCode o), v]) ∧
  (∀ (p : Pair1) (v : Word), encode (Instr.ldPair p v) = [byteOf (0x01 + 16 * pair1Code p), lowByte v, highByte v]) ∧
  (∀ p : Pair1, encode (Instr.addHl p) = [byteOf (0x09 + 16 * pair1Code p)] ∧
    encode (Instr.incPair p) = [byteOf (0x03 + 16 * pair1Code p)] ∧
    encode (Instr.decPair p) = [byteOf (0x0B + 16 * pair1Code p)]) ∧
  (∀ p : Pair2, encode (Instr.pop p) = [byteOf (0xC1 + 16 * pair2Code p)] ∧
    encode (Instr.push p) = [byteOf (0xC5 + 16 * pair2Code p)]) ∧
  (∀ v : Word, encode .ret = [0xC9] ∧ encode .reti = [0xD9] ∧ encode .jpHl = [0xE9] ∧ encode .ldSpHl = [0xF9] ∧
    encode (.callA16 v) = [0xCD, lowByte v, highByte v]) ∧
  (∀ (cc : Cond) (v : Word) (r8 : Byte),
    encode (Instr.jpCc cc v) = [byteOf (0xC2 + 8 * condCode cc), lowByte v, highByte v] ∧
    encode (Instr.callCc cc v) = [byteOf (0xC4 + 8 * condCode cc), lowByte v, highByte v] ∧
    encode (Instr.jrCc cc r8) = [byteOf (0x20 + 8 * condCode cc), r8] ∧
    encode (Instr.retCc cc) = [byteOf (0xC0 + 8 * condCode cc)]) ∧
  (∀ t : RstVec, encode (Instr.rst t) = [byteOf (0xC7 + 8 * rstCode t)] ∧
    rstTarget t = BitVec.ofNat 16 (rstCode t * 8)) ∧
  (∀ (op : RotOp) (o : Opnd8), encode (Instr.rot op o) = [0xCB, byteOf (0x00 + 8 * rotCode op + opndCode o)]) ∧
  (∀ (b : BitNo) (o : Opnd8),
    encode (Instr.bit b o) = [0xCB, byteOf (0x40 + 8 * bitIndex b + opndCode o)] ∧
    encode (Instr.res b o) = [0xCB, byteOf (0x80 + 8 * bitIndex b + opndCode o)] ∧
    encode (Instr.set b o) = [0xCB, byteOf (0xC0 + 8 * bitIndex b + opndCode o)]) ∧
  (∀ op2 : Byte, ∃ i : Instr, i.wellFormed = true ∧ encode i = [0xCB, op2] ∧ decode [0xCB, op2] = .ok i []) ∧
  (∀ (s : State) (v : Byte), s.src8 .atHl = s.peek s.hl ∧ s.dst8 .atHl v = s.write8 s.hl v ∧
    ∀ r : Reg8, s.src8 (.reg r) = s.reg8 r ∧ s.dst8 (.reg r) v = s.setReg8 r v) ∧
  (∀ f : Flags, condHolds .nz f = !f.z ∧ condHolds .z f = f.z ∧ condHolds .nc f = !f.c ∧ condHolds .c f = f.c)

/-- Words written out from R112 and R113, one or more of each family, decode to the instructions they stand for. -/
def Obligations.SampleWordsDecode : Prop :=
  decode [0x00] = .ok .nop [] ∧
  decode [0x01, 0x34, 0x12] = .ok (.ldBcD16 0x1234) [] ∧
  decode [0x08, 0x00, 0xC1] = .ok (.ldAtA16Sp 0xC100) [] ∧
  decode [0x10, 0x00] = .ok (.stop 0x00) [] ∧
  decode [0x20, 0xFE] = .ok (.jrNzR8 0xFE) [] ∧
  decode [0x27] = .ok .daa [] ∧
  decode [0x34] = .ok .incAtHl [] ∧
  decode [0x41] = .ok .ldBC [] ∧
  decode [0x76] = .ok .halt [] ∧
  decode [0x9E] = .ok .sbcAAtHl [] ∧
  decode [0xC2, 0x34, 0x12] = .ok (.jpNzA16 0x1234) [] ∧
  decode [0xCB, 0x37] = .ok .swapA [] ∧
  decode [0xCB, 0x7E] = .ok .bit7AtHl [] ∧
  decode [0xD9] = .ok .reti [] ∧
  decode [0xE0, 0xFF] = .ok (.ldhAtA8A 0xFF) [] ∧
  decode [0xF8, 0x02] = .ok (.ldHlSpR8 0x02) [] ∧
  decode [0xFB] = .ok .ei [] ∧
  decode [0xED] = .ok .illegalED []

/-- R345: the prefix executes the row of the extended table, and its cost is 1 plus the sub-operation's: 1 for a
register, 2 for BIT b,(HL), 3 for the other (HL) operations. Completion of `prefixCb`. -/
def Obligations.PrefixRunsTheExtendedTable : Prop :=
  ∀ (op2 : Byte) (s : State),
    encode (.prefixCb op2) = [0xCB, op2] ∧
    (∀ rest, decode (0xCB :: op2 :: rest) = .ok (cbEntry op2) rest) ∧
    exec (.prefixCb op2) s = exec (cbEntry op2) s ∧
    ∃ t, exec (.prefixCb op2) s = .next t ∧
      t.outcome = some (.executed (1 +
        (if op2 &&& 0x07 = 0x06 then (if op2 &&& 0xC0 = 0x40 then 2 else 3) else 1)))

/-- R112, R113, R515: every instruction completes on every state, with the M-cycles of its cell (the not-taken count
when its condition fails), the flags of its cell's flag column, and the length of its cell. -/
def Obligations.OpcodeMapColumnsHold : Prop :=
  ∀ (i : Instr) (s : State), ∃ t, exec i s = .next t ∧
    t.outcome = some (.executed
      (match i.condition with
      | some cc => if condHolds cc s.f then i.takenCycles else i.notTakenCycles
      | none => i.takenCycles)) ∧
    (let agrees : FlagEffect → Bool → Bool → Prop := fun e old new =>
      match e with
      | .keep => new = old
      | .zero => new = false
      | .one => new = true
      | .computed => True
     agrees i.flagRow.z s.f.z t.f.z ∧ agrees i.flagRow.n s.f.n t.f.n ∧
     agrees i.flagRow.h s.f.h t.f.h ∧ agrees i.flagRow.c s.f.c t.f.c) ∧
    (encode i).length = opLength ((encode i).headD 0)

/-! ### 8-bit arithmetic and logic -/

/-- R140, R150 to R155: ADD and ADC, on a register (addAB … addAA, adcAB … adcAA), (HL) (addAAtHl, adcAAtHl) and an
immediate (addAD8, adcAD8), with `add8` on integers. -/
def Obligations.AddAndAdc : Prop :=
  ∀ (s : State) (r : Reg8) (d8 : Byte),
    encode (Instr.alu .add (.reg r)) = [byteOf (0x80 + regCode r)] ∧
    exec (Instr.alu .add (.reg r)) s = .next { s with
      a := (specAdd8 s.a (s.reg8 r) false).value, f := (specAdd8 s.a (s.reg8 r) false).flags
      outcome := some (.executed 1) } ∧
    encode .addAAtHl = [0x86] ∧
    exec .addAAtHl s = .next { s.afterRead s.hl with
      a := (specAdd8 s.a (s.peek s.hl) false).value, f := (specAdd8 s.a (s.peek s.hl) false).flags
      outcome := some (.executed 2) } ∧
    encode (.addAD8 d8) = [0xC6, d8] ∧
    exec (.addAD8 d8) s = .next { s with
      a := (specAdd8 s.a d8 false).value, f := (specAdd8 s.a d8 false).flags
      outcome := some (.executed 2) } ∧
    encode (Instr.alu .adc (.reg r)) = [byteOf (0x88 + regCode r)] ∧
    exec (Instr.alu .adc (.reg r)) s = .next { s with
      a := (specAdd8 s.a (s.reg8 r) s.f.c).value, f := (specAdd8 s.a (s.reg8 r) s.f.c).flags
      outcome := some (.executed 1) } ∧
    encode .adcAAtHl = [0x8E] ∧
    exec .adcAAtHl s = .next { s.afterRead s.hl with
      a := (specAdd8 s.a (s.peek s.hl) s.f.c).value, f := (specAdd8 s.a (s.peek s.hl) s.f.c).flags
      outcome := some (.executed 2) } ∧
    encode (.adcAD8 d8) = [0xCE, d8] ∧
    exec (.adcAD8 d8) s = .next { s with
      a := (specAdd8 s.a d8 s.f.c).value, f := (specAdd8 s.a d8 s.f.c).flags
      outcome := some (.executed 2) }

/-- R141, R156 to R161: SUB and SBC, on a register (subB … subA, sbcAB … sbcAA), (HL) (subAtHl, sbcAAtHl) and an
immediate (subD8, sbcAD8), with `sub8` on integers. R171 to R173: CP (cpB … cpA, cpAtHl, cpD8) computes the flags of
`sub8` only and leaves A; Z means A = operand, C means A < operand. -/
def Obligations.SubSbcAndCp : Prop :=
  (∀ (s : State) (r : Reg8) (d8 : Byte),
    encode (Instr.alu .sub (.reg r)) = [byteOf (0x90 + regCode r)] ∧
    exec (Instr.alu .sub (.reg r)) s = .next { s with
      a := (specSub8 s.a (s.reg8 r) false).value, f := (specSub8 s.a (s.reg8 r) false).flags
      outcome := some (.executed 1) } ∧
    encode .subAtHl = [0x96] ∧
    exec .subAtHl s = .next { s.afterRead s.hl with
      a := (specSub8 s.a (s.peek s.hl) false).value, f := (specSub8 s.a (s.peek s.hl) false).flags
      outcome := some (.executed 2) } ∧
    encode (.subD8 d8) = [0xD6, d8] ∧
    exec (.subD8 d8) s = .next { s with
      a := (specSub8 s.a d8 false).value, f := (specSub8 s.a d8 false).flags
      outcome := some (.executed 2) } ∧
    encode (Instr.alu .sbc (.reg r)) = [byteOf (0x98 + regCode r)] ∧
    exec (Instr.alu .sbc (.reg r)) s = .next { s with
      a := (specSub8 s.a (s.reg8 r) s.f.c).value, f := (specSub8 s.a (s.reg8 r) s.f.c).flags
      outcome := some (.executed 1) } ∧
    encode .sbcAAtHl = [0x9E] ∧
    exec .sbcAAtHl s = .next { s.afterRead s.hl with
      a := (specSub8 s.a (s.peek s.hl) s.f.c).value, f := (specSub8 s.a (s.peek s.hl) s.f.c).flags
      outcome := some (.executed 2) } ∧
    encode (.sbcAD8 d8) = [0xDE, d8] ∧
    exec (.sbcAD8 d8) s = .next { s with
      a := (specSub8 s.a d8 s.f.c).value, f := (specSub8 s.a d8 s.f.c).flags
      outcome := some (.executed 2) } ∧
    encode (Instr.alu .cp (.reg r)) = [byteOf (0xB8 + regCode r)] ∧
    exec (Instr.alu .cp (.reg r)) s = .next { s with
      f := (specSub8 s.a (s.reg8 r) false).flags, outcome := some (.executed 1) } ∧
    encode .cpAtHl = [0xBE] ∧
    exec .cpAtHl s = .next { s.afterRead s.hl with
      f := (specSub8 s.a (s.peek s.hl) false).flags
      outcome := some (.executed 2) } ∧
    encode (.cpD8 d8) = [0xFE, d8] ∧
    exec (.cpD8 d8) s = .next { s with
      f := (specSub8 s.a d8 false).flags, outcome := some (.executed 2) }) ∧
  (∀ a v : Byte,
    (specSub8 a v false).flags.z = decide (a = v) ∧ (specSub8 a v false).flags.c = decide (a.toNat < v.toNat))

/-- R142 to R144, R162 to R170: AND, XOR and OR with their flags, on a register (andB … andA, xorB … xorA,
orB … orA), (HL) and an immediate. -/
def Obligations.AndXorOr : Prop :=
  ∀ (s : State) (r : Reg8) (d8 : Byte),
    encode (Instr.alu .and (.reg r)) = [byteOf (0xA0 + regCode r)] ∧
    exec (Instr.alu .and (.reg r)) s = .next { s with
      a := s.a &&& s.reg8 r, f := ⟨decide (s.a &&& s.reg8 r = 0), false, true, false⟩
      outcome := some (.executed 1) } ∧
    encode .andAtHl = [0xA6] ∧
    exec .andAtHl s = .next { s.afterRead s.hl with
      a := s.a &&& s.peek s.hl, f := ⟨decide (s.a &&& s.peek s.hl = 0), false, true, false⟩
      outcome := some (.executed 2) } ∧
    encode (.andD8 d8) = [0xE6, d8] ∧
    exec (.andD8 d8) s = .next { s with
      a := s.a &&& d8, f := ⟨decide (s.a &&& d8 = 0), false, true, false⟩
      outcome := some (.executed 2) } ∧
    encode (Instr.alu .xor (.reg r)) = [byteOf (0xA8 + regCode r)] ∧
    exec (Instr.alu .xor (.reg r)) s = .next { s with
      a := s.a ^^^ s.reg8 r, f := ⟨decide (s.a ^^^ s.reg8 r = 0), false, false, false⟩
      outcome := some (.executed 1) } ∧
    encode .xorAtHl = [0xAE] ∧
    exec .xorAtHl s = .next { s.afterRead s.hl with
      a := s.a ^^^ s.peek s.hl, f := ⟨decide (s.a ^^^ s.peek s.hl = 0), false, false, false⟩
      outcome := some (.executed 2) } ∧
    encode (.xorD8 d8) = [0xEE, d8] ∧
    exec (.xorD8 d8) s = .next { s with
      a := s.a ^^^ d8, f := ⟨decide (s.a ^^^ d8 = 0), false, false, false⟩
      outcome := some (.executed 2) } ∧
    encode (Instr.alu .or (.reg r)) = [byteOf (0xB0 + regCode r)] ∧
    exec (Instr.alu .or (.reg r)) s = .next { s with
      a := s.a ||| s.reg8 r, f := ⟨decide (s.a ||| s.reg8 r = 0), false, false, false⟩
      outcome := some (.executed 1) } ∧
    encode .orAtHl = [0xB6] ∧
    exec .orAtHl s = .next { s.afterRead s.hl with
      a := s.a ||| s.peek s.hl, f := ⟨decide (s.a ||| s.peek s.hl = 0), false, false, false⟩
      outcome := some (.executed 2) } ∧
    encode (.orD8 d8) = [0xF6, d8] ∧
    exec (.orD8 d8) s = .next { s with
      a := s.a ||| d8, f := ⟨decide (s.a ||| d8 = 0), false, false, false⟩
      outcome := some (.executed 2) }

/-- R180 to R183: INC and DEC of a register (incB … incA, decB … decA) and of the byte at HL (incAtHl, decAtHl, one
read then one write of the same address); C is unchanged. -/
def Obligations.IncAndDecBytes : Prop :=
  ∀ (s : State) (r : Reg8),
    (let up := fun v : Byte => specAdd8 v 1 false
     let down := fun v : Byte => specSub8 v 1 false
     encode (Instr.inc8 (.reg r)) = [byteOf (0x04 + 8 * regCode r)] ∧
     exec (Instr.inc8 (.reg r)) s = .next { s.setReg8 r (up (s.reg8 r)).value with
       f := ⟨(up (s.reg8 r)).flags.z, false, (up (s.reg8 r)).flags.h, s.f.c⟩, outcome := some (.executed 1) } ∧
     encode (Instr.dec8 (.reg r)) = [byteOf (0x05 + 8 * regCode r)] ∧
     exec (Instr.dec8 (.reg r)) s = .next { s.setReg8 r (down (s.reg8 r)).value with
       f := ⟨(down (s.reg8 r)).flags.z, true, (down (s.reg8 r)).flags.h, s.f.c⟩, outcome := some (.executed 1) } ∧
     encode .incAtHl = [0x34] ∧
     (∃ t, exec .incAtHl s = .next t ∧ (s.flat → StoresByte s t s.hl (up (s.peek s.hl)).value) ∧
       t = { (s.afterRead s.hl).write8 s.hl (up (s.peek s.hl)).value with
         f := ⟨(up (s.peek s.hl)).flags.z, false, (up (s.peek s.hl)).flags.h, s.f.c⟩
         outcome := some (.executed 3) }) ∧
     encode .decAtHl = [0x35] ∧
     (∃ t, exec .decAtHl s = .next t ∧ (s.flat → StoresByte s t s.hl (down (s.peek s.hl)).value) ∧
       t = { (s.afterRead s.hl).write8 s.hl (down (s.peek s.hl)).value with
         f := ⟨(down (s.peek s.hl)).flags.z, true, (down (s.peek s.hl)).flags.h, s.f.c⟩
         outcome := some (.executed 3) }))

/-- The consequences of the flag formulas that the spec derives (R140, R141, R145, R185, R200, R201), of the model's own
operations: H and C of `add8` are the carries out of bits 3 and 7, of `sub8` the borrows from bits 4 and 8; sign-extended
operands of any width of at least 9 bits give the same result, H and C; H and C of `add16` are the carries out of bits
11 and 15; under `hw8`, those of `sp_plus` are the carries of the low byte's unsigned addition, and the result is the
same under both parameters; DAA's high correction after an addition is the test of the original A. -/
def Obligations.FlagFormulasGiveTheCarries : Prop :=
  (∀ (a b : Byte) (c : Bool),
    (add8 a b c).flags.h = decide (a.toNat % 16 + b.toNat % 16 + c.toNat > 15) ∧
    (add8 a b c).flags.c = decide (a.toNat + b.toNat + c.toNat > 255) ∧
    (sub8 a b c).flags.h = decide (a.toNat % 16 < b.toNat % 16 + c.toNat) ∧
    (sub8 a b c).flags.c = decide (a.toNat < b.toNat + c.toNat)) ∧
  (∀ (w : Nat) (a b : Byte) (c : Bool), 9 ≤ w →
    (let x := a.signExtend w
     let y := b.signExtend w
     let k := (BitVec.ofBool c).setWidth w
     let sum := x + y + k
     let diff := x - y - k
     sum.setWidth 8 = (add8 a b c).value ∧
     (x ^^^ y ^^^ sum).getLsbD 4 = (add8 a b c).flags.h ∧
     (x ^^^ y ^^^ sum).getLsbD 8 = (add8 a b c).flags.c ∧
     diff.setWidth 8 = (sub8 a b c).value ∧
     (x ^^^ y ^^^ diff).getLsbD 4 = (sub8 a b c).flags.h ∧
     (x ^^^ y ^^^ diff).getLsbD 8 = (sub8 a b c).flags.c)) ∧
  (∀ a b : Word,
    (add16 a b).h = decide (a.toNat % 4096 + b.toNat % 4096 > 4095) ∧
    (add16 a b).c = decide (a.toNat + b.toNat > 65535)) ∧
  (∀ (sp : Word) (d : Byte),
    (spPlus .doc16 sp d).value = (spPlus .hw8 sp d).value ∧
    (spPlus .hw8 sp d).h = decide (sp.toNat % 16 + d.toNat % 16 > 15) ∧
    (spPlus .hw8 sp d).c = decide (sp.toNat % 256 + d.toNat > 255)) ∧
  (∀ (a : Byte) (f : Flags), f.n = false → (daa a f).flags.c = (f.c || decide (a.toNat > 0x99)))

/-- R185: DAA as its rule writes it, on an unbounded integer. -/
def Obligations.DecimalAdjust : Prop :=
  ∀ s : State,
    (let a := s.a.toNat
     let low : Nat := if s.f.h = true ∨ a % 16 > 9 then 0x06 else 0
     let high : Bool := s.f.c || decide (a + low > 0x9F)
     let t : Int :=
       if s.f.n = false then (a : Int) + low + (if high = true then 0x60 else 0)
       else (a : Int) - (if s.f.h = true then 0x06 else 0) - (if s.f.c = true then 0x60 else 0)
     encode .daa = [0x27] ∧
     exec .daa s = .next { s with
       a := byteOf (t % 256).toNat
       f := ⟨decide (t % 256 = 0), s.f.n, false, if s.f.n = false then high else s.f.c⟩
       outcome := some (.executed 1) })

/-- R185, its purpose ('re-normalizes A to valid BCD'): after an ADC or SBC of two-digit BCD numbers, DAA leaves the
BCD of their decimal sum or difference modulo 100, with C the decimal carry or borrow. Derived, not in the spec's
words. -/
def Obligations.DecimalAdjustGivesBcdResults : Prop :=
  ∀ (x y : Fin 100) (c : Bool),
    (let bcd := fun n : Nat => byteOf (n / 10 % 10 * 16 + n % 10)
     let add := add8 (bcd x) (bcd y) c
     let sub := sub8 (bcd x) (bcd y) c
     (daa add.value add.flags).value = bcd ((x.val + y.val + c.toNat) % 100) ∧
     (daa add.value add.flags).flags.c = decide (x.val + y.val + c.toNat ≥ 100) ∧
     (daa sub.value sub.flags).value = bcd ((x.val + 200 - y.val - c.toNat) % 100) ∧
     (daa sub.value sub.flags).flags.c = decide (x.val < y.val + c.toNat))

/-- R186 to R188: CPL, SCF and CCF. -/
def Obligations.ComplementAndCarryFlag : Prop :=
  ∀ s : State,
    encode .cpl = [0x2F] ∧
    exec .cpl s = .next { s with
      a := s.a ^^^ 0xFF, f := ⟨s.f.z, true, true, s.f.c⟩, outcome := some (.executed 1) } ∧
    encode .scf = [0x37] ∧
    exec .scf s = .next { s with f := ⟨s.f.z, false, false, true⟩, outcome := some (.executed 1) } ∧
    encode .ccf = [0x3F] ∧
    exec .ccf s = .next { s with f := ⟨s.f.z, false, false, !s.f.c⟩, outcome := some (.executed 1) }

/-! ### 16-bit arithmetic -/

/-- R203, R204: INC rr and DEC rr (incBc, incDe, incHl, incSp, decBc, decDe, decHl, decSp) modulo 2^16, with no flag.
R200, R202: ADD HL,rr (addHlBc, addHlDe, addHlHl, addHlSp), with Z unchanged. -/
def Obligations.PairArithmetic : Prop :=
  ∀ (s : State) (p : Pair1),
    encode (Instr.incPair p) = [byteOf (0x03 + 16 * pair1Code p)] ∧
    exec (Instr.incPair p) s = .next { s.setPair1 p (s.pair1 p + 1) with outcome := some (.executed 2) } ∧
    encode (Instr.decPair p) = [byteOf (0x0B + 16 * pair1Code p)] ∧
    exec (Instr.decPair p) s = .next { s.setPair1 p (s.pair1 p - 1) with outcome := some (.executed 2) } ∧
    encode (Instr.addHl p) = [byteOf (0x09 + 16 * pair1Code p)] ∧
    exec (Instr.addHl p) s = .next { s with
      h := highByte (specAdd16 s.hl (s.pair1 p)).value, l := lowByte (specAdd16 s.hl (s.pair1 p)).value
      f := ⟨s.f.z, false, (specAdd16 s.hl (s.pair1 p)).h, (specAdd16 s.hl (s.pair1 p)).c⟩
      outcome := some (.executed 2) }

/-- R201, R205, R206: ADD SP,r8 and LD HL,SP+r8 under both values of `ADD_SP_FLAGS`. -/
def Obligations.AddSpAndLdHlSp : Prop :=
  ∀ (s : State) (r8 : Byte),
    (let out := specSpPlus s.config.addSpFlags s.sp r8
     encode (.addSpR8 r8) = [0xE8, r8] ∧
     exec (.addSpR8 r8) s = .next { s with
       sp := out.value, f := ⟨false, false, out.h, out.c⟩, outcome := some (.executed 4) } ∧
     encode (.ldHlSpR8 r8) = [0xF8, r8] ∧
     exec (.ldHlSpR8 r8) s = .next { s with
       h := highByte out.value, l := lowByte out.value, f := ⟨false, false, out.h, out.c⟩
       outcome := some (.executed 3) })

/-! ### Rotates, shifts, bits -/

/-- R220 to R223: RLCA, RRCA, RLA and RRA, with Z forced to 0. -/
def Obligations.AccumulatorRotates : Prop :=
  ∀ s : State,
    (let run : RotOp → State := fun op => { s with
       a := (specRotate op s.a s.f.c).value, f := ⟨false, false, false, (specRotate op s.a s.f.c).carry⟩
       outcome := some (.executed 1) }
     encode .rlca = [0x07] ∧ exec .rlca s = .next (run .rlc) ∧
     encode .rrca = [0x0F] ∧ exec .rrca s = .next (run .rrc) ∧
     encode .rla = [0x17] ∧ exec .rla s = .next (run .rl) ∧
     encode .rra = [0x1F] ∧ exec .rra s = .next (run .rr))

/-- R225, R227, R229, R231, R233, R235, R237, R239: the eight rotates and shifts of a register (rlcB … srlA). -/
def Obligations.RotatesOfRegisters : Prop :=
  ∀ (s : State) (op : RotOp) (r : Reg8),
    (let out := specRotate op (s.reg8 r) s.f.c
     encode (Instr.rot op (.reg r)) = [0xCB, byteOf (8 * rotCode op + regCode r)] ∧
     exec (Instr.rot op (.reg r)) s = .next { s.setReg8 r out.value with
       f := ⟨decide (out.value = 0), false, false, out.carry⟩, outcome := some (.executed 2) })

/-- R226, R228, R230, R232, R234, R236, R238, R240 (and R224's one read, then one write): the eight rotates and
shifts of the byte at HL (rlcAtHl … srlAtHl). -/
def Obligations.RotatesOfTheByteAtHl : Prop :=
  ∀ (s : State) (op : RotOp),
    (let out := specRotate op (s.peek s.hl) s.f.c
     encode (Instr.rot op .atHl) = [0xCB, byteOf (8 * rotCode op + 6)] ∧
     ∃ t, exec (Instr.rot op .atHl) s = .next t ∧ (s.flat → StoresByte s t s.hl out.value) ∧
       t = { (s.afterRead s.hl).write8 s.hl out.value with
         f := ⟨decide (out.value = 0), false, false, out.carry⟩
         outcome := some (.executed 4) })

/-- R241, R242: BIT b,r (bit0B … bit7A) and BIT b,(HL) (bit0AtHl … bit7AtHl): Z is the complement of the bit, H is
set, C is unchanged, and nothing is written but flags. -/
def Obligations.BitTests : Prop :=
  ∀ (s : State) (b : BitNo) (r : Reg8),
    encode (Instr.bit b (.reg r)) = [0xCB, byteOf (0x40 + 8 * bitIndex b + regCode r)] ∧
    exec (Instr.bit b (.reg r)) s = .next { s with
      f := ⟨!(s.reg8 r).toNat.testBit (bitIndex b), false, true, s.f.c⟩, outcome := some (.executed 2) } ∧
    encode (Instr.bit b .atHl) = [0xCB, byteOf (0x46 + 8 * bitIndex b)] ∧
    exec (Instr.bit b .atHl) s = .next { s.afterRead s.hl with
      f := ⟨!(s.peek s.hl).toNat.testBit (bitIndex b), false, true, s.f.c⟩
      outcome := some (.executed 3) }

/-- R243 to R246: RES and SET of a register (res0B … set7A) and of the byte at HL (res0AtHl … set7AtHl), the
latter a read and then a write even if the value does not change; no flag. -/
def Obligations.ResetAndSetBits : Prop :=
  ∀ (s : State) (b : BitNo) (r : Reg8),
    (let clear := fun v : Byte => v &&& ~~~ (byteOf (2 ^ bitIndex b))
     let put := fun v : Byte => v ||| byteOf (2 ^ bitIndex b)
     encode (Instr.res b (.reg r)) = [0xCB, byteOf (0x80 + 8 * bitIndex b + regCode r)] ∧
     exec (Instr.res b (.reg r)) s = .next { s.setReg8 r (clear (s.reg8 r)) with outcome := some (.executed 2) } ∧
     encode (Instr.set b (.reg r)) = [0xCB, byteOf (0xC0 + 8 * bitIndex b + regCode r)] ∧
     exec (Instr.set b (.reg r)) s = .next { s.setReg8 r (put (s.reg8 r)) with outcome := some (.executed 2) } ∧
     encode (Instr.res b .atHl) = [0xCB, byteOf (0x86 + 8 * bitIndex b)] ∧
     (∃ t, exec (Instr.res b .atHl) s = .next t ∧ (s.flat → StoresByte s t s.hl (clear (s.peek s.hl))) ∧
       t = { (s.afterRead s.hl).write8 s.hl (clear (s.peek s.hl)) with outcome := some (.executed 4) }) ∧
     encode (Instr.set b .atHl) = [0xCB, byteOf (0xC6 + 8 * bitIndex b)] ∧
     (∃ t, exec (Instr.set b .atHl) s = .next t ∧ (s.flat → StoresByte s t s.hl (put (s.peek s.hl))) ∧
       t = { (s.afterRead s.hl).write8 s.hl (put (s.peek s.hl)) with outcome := some (.executed 4) }))

/-! ### Loads and stores -/

/-- R260 to R262: LD r,r' (ldBB … ldAA), LD r,d8 (ldBD8 … ldAD8) and LD r,(HL) (ldBAtHl … ldAAtHl, whose address
is HL from before the write) change no flag and write nothing. R263, R264: LD (HL),r (ldAtHlB … ldAtHlA) and
LD (HL),d8 (ldAtHlD8) store one byte at HL and change nothing else. -/
def Obligations.LoadsBetweenRegistersAndHl : Prop :=
  ∀ (s : State) (dst r : Reg8) (v : Byte),
    encode (Instr.ld8 (.reg dst) (.reg r)) = [byteOf (0x40 + 8 * regCode dst + regCode r)] ∧
    exec (Instr.ld8 (.reg dst) (.reg r)) s = .next { s.setReg8 dst (s.reg8 r) with outcome := some (.executed 1) } ∧
    encode (Instr.ld8Imm (.reg dst) v) = [byteOf (0x06 + 8 * regCode dst), v] ∧
    exec (Instr.ld8Imm (.reg dst) v) s = .next { s.setReg8 dst v with outcome := some (.executed 2) } ∧
    encode (Instr.ld8 (.reg dst) .atHl) = [byteOf (0x46 + 8 * regCode dst)] ∧
    exec (Instr.ld8 (.reg dst) .atHl) s = .next { (s.afterRead s.hl).setReg8 dst (s.peek s.hl) with
      outcome := some (.executed 2) } ∧
    encode (Instr.ld8 .atHl (.reg r)) = [byteOf (0x70 + regCode r)] ∧
    (∃ t, exec (Instr.ld8 .atHl (.reg r)) s = .next t ∧ (s.flat → StoresByte s t s.hl (s.reg8 r)) ∧
      t = { s.write8 s.hl (s.reg8 r) with outcome := some (.executed 2) }) ∧
    encode (Instr.ld8Imm .atHl v) = [0x36, v] ∧
    (∃ t, exec (Instr.ld8Imm .atHl v) s = .next t ∧ (s.flat → StoresByte s t s.hl v) ∧
      t = { s.write8 s.hl v with outcome := some (.executed 3) })

/-- R265, R267, R269, R271: the loads of A from (BC), (DE), (a16), the high page (a8) and the high page (C). -/
def Obligations.AccumulatorLoads : Prop :=
  ∀ (s : State) (a16 : Word) (a8 : Byte),
    (let loaded : Word → Nat → State := fun a n => { s.afterRead a with a := s.peek a, outcome := some (.executed n) }
     encode .ldAAtBc = [0x0A] ∧ exec .ldAAtBc s = .next (loaded (s.b ++ s.c) 2) ∧
     encode .ldAAtDe = [0x1A] ∧ exec .ldAAtDe s = .next (loaded (s.d ++ s.e) 2) ∧
     encode (.ldAAtA16 a16) = [0xFA, lowByte a16, highByte a16] ∧ exec (.ldAAtA16 a16) s = .next (loaded a16 4) ∧
     encode (.ldhAAtA8 a8) = [0xF0, a8] ∧
     exec (.ldhAAtA8 a8) s = .next (loaded (BitVec.ofNat 16 (0xFF00 + a8.toNat)) 3) ∧
     encode .ldAAtC = [0xF2] ∧ exec .ldAAtC s = .next (loaded (BitVec.ofNat 16 (0xFF00 + s.c.toNat)) 2))

/-- R266, R268, R270, R272: the stores of A to (BC), (DE), (a16), the high page (a8) and the high page (C). Each
stores the one byte at the address and changes nothing else. -/
def Obligations.AccumulatorStores : Prop :=
  ∀ (s : State) (a16 : Word) (a8 : Byte),
    (let stored := fun (i : Instr) (a : Word) (n : Nat) => ∃ t, exec i s = .next t ∧ (s.flat → StoresByte s t a s.a) ∧
       t = { s.write8 a s.a with outcome := some (.executed n) }
     encode .ldAtBcA = [0x02] ∧ stored .ldAtBcA (s.b ++ s.c) 2 ∧
     encode .ldAtDeA = [0x12] ∧ stored .ldAtDeA (s.d ++ s.e) 2 ∧
     encode (.ldAtA16A a16) = [0xEA, lowByte a16, highByte a16] ∧ stored (.ldAtA16A a16) a16 4 ∧
     encode (.ldhAtA8A a8) = [0xE0, a8] ∧ stored (.ldhAtA8A a8) (BitVec.ofNat 16 (0xFF00 + a8.toNat)) 3 ∧
     encode .ldAtCA = [0xE2] ∧ stored .ldAtCA (BitVec.ofNat 16 (0xFF00 + s.c.toNat)) 2)

/-- R273 to R276: the loads and stores of A at HL that then increment or decrement HL modulo 2^16; the old HL is the
address. -/
def Obligations.LoadsAndStoresThatStepHl : Prop :=
  ∀ s : State,
    (let up := s.hl + 1
     let down := s.hl - 1
     encode .ldAtHliA = [0x22] ∧
     (∃ t, exec .ldAtHliA s = .next t ∧ (s.flat → StoresByte s t s.hl s.a) ∧
       t = { s.write8 s.hl s.a with h := highByte up, l := lowByte up, outcome := some (.executed 2) }) ∧
     encode .ldAAtHli = [0x2A] ∧
     exec .ldAAtHli s = .next { s.afterRead s.hl with
       a := s.peek s.hl, h := highByte up, l := lowByte up
       outcome := some (.executed 2) } ∧
     encode .ldAtHldA = [0x32] ∧
     (∃ t, exec .ldAtHldA s = .next t ∧ (s.flat → StoresByte s t s.hl s.a) ∧
       t = { s.write8 s.hl s.a with h := highByte down, l := lowByte down, outcome := some (.executed 2) }) ∧
     encode .ldAAtHld = [0x3A] ∧
     exec .ldAAtHld s = .next { s.afterRead s.hl with
       a := s.peek s.hl, h := highByte down, l := lowByte down
       outcome := some (.executed 2) })

/-- R277 to R279: LD rr,d16 (ldBcD16, ldDeD16, ldHlD16, ldSpD16), LD (a16),SP (the low byte to a16, then the high byte
to a16 + 1 modulo 2^16) and LD SP,HL. -/
def Obligations.WordLoads : Prop :=
  ∀ (s : State) (p : Pair1) (v : Word),
    encode (Instr.ldPair p v) = [byteOf (0x01 + 16 * pair1Code p), lowByte v, highByte v] ∧
    exec (Instr.ldPair p v) s = .next { s.setPair1 p v with outcome := some (.executed 3) } ∧
    encode (.ldAtA16Sp v) = [0x08, lowByte v, highByte v] ∧
    (∃ t, exec (.ldAtA16Sp v) s = .next t ∧ (s.flat → StoresWord s t v s.sp) ∧
      t = { (s.write8 v (lowByte s.sp)).write8 (v + 1) (highByte s.sp) with outcome := some (.executed 5) }) ∧
    encode .ldSpHl = [0xF9] ∧
    exec .ldSpHl s = .next { s with sp := s.h ++ s.l, outcome := some (.executed 2) }

/-! ### Control flow and the stack -/

/-- R300, R303: PUSH rr (pushBc, pushDe, pushHl, pushAf): SP is decremented by 2, then the pair is stored at the new
SP, low byte first; AF is pushed with F's low nibble 0. -/
def Obligations.PushStoresThePair : Prop :=
  ∀ (s : State) (p : Pair2),
    (let v := s.pair2 p
     let sp := s.sp - 2
     encode (Instr.push p) = [byteOf (0xC5 + 16 * pair2Code p)] ∧
     s.pair2 .af &&& 0x000F = 0 ∧
     ∃ t, exec (Instr.push p) s = .next t ∧ (s.flat → StoresWord s t sp v) ∧
       t = { (s.write8 sp (lowByte v)).write8 (sp + 1) (highByte v) with sp := sp, outcome := some (.executed 4) })

/-- R301, R304, R305, R35: POP rr (popBc, popDe, popHl) and POP AF (popAf), which keeps bits 7..4 of the popped low
byte as the flags and drops the rest. -/
def Obligations.PopLoadsThePair : Prop :=
  ∀ s : State,
    (let lo := s.peek s.sp
     let hi := (s.afterRead s.sp).peek (s.sp + 1)
     let popped : State := { (s.afterRead s.sp).afterRead (s.sp + 1) with
       sp := s.sp + 2, outcome := some (.executed 3) }
     encode .popBc = [0xC1] ∧ exec .popBc s = .next { popped with b := hi, c := lo } ∧
     encode .popDe = [0xD1] ∧ exec .popDe s = .next { popped with d := hi, e := lo } ∧
     encode .popHl = [0xE1] ∧ exec .popHl s = .next { popped with h := hi, l := lo } ∧
     encode .popAf = [0xF1] ∧
     (∃ t, exec .popAf s = .next t ∧ t.f.toByte = lo &&& 0xF0 ∧
       t.f = ⟨lo.toNat.testBit 7, lo.toNat.testBit 6, lo.toNat.testBit 5, lo.toNat.testBit 4⟩ ∧
       t = { popped with a := hi, f := t.f }))

/-- R301's round trip at the level of instructions, on the reference bus: PUSH rr and then POP rr of the same pair
restores every register, every flag and SP, and memory changes only in the two bytes pushed. -/
def Obligations.PushThenPopRestores : Prop :=
  ∀ (s : State) (p : Pair2), s.flat → ∃ t u,
    exec (Instr.push p) s = .next t ∧ exec (Instr.pop p) t = .next u ∧
    u = { s with mem := t.mem, trace := u.trace, outcome := u.outcome } ∧
    StoresWord s u (s.sp - 2) (s.pair2 p)

/-- R302, R306 to R310: JP a16, JP cc,a16 (jpNzA16, jpZA16, jpNcA16, jpCA16), JP HL, JR r8 and JR cc,r8 (jrNzR8,
jrZR8, jrNcR8, jrCR8), taken and not taken, with their M-cycles. -/
def Obligations.JumpsGoWhereTheySay : Prop :=
  ∀ (s : State) (cc : Cond) (a16 : Word) (r8 : Byte),
    (let holds : Bool :=
       match cc with
       | .nz => s.f.z == false
       | .z => s.f.z == true
       | .nc => s.f.c == false
       | .c => s.f.c == true
     let relative := BitVec.ofNat 16 ((s.pc.toNat + specSext16 r8) % 65536)
     encode (.jpA16 a16) = [0xC3, lowByte a16, highByte a16] ∧
     exec (.jpA16 a16) s = .next { s with pc := a16, outcome := some (.executed 4) } ∧
     encode (Instr.jpCc cc a16) = [byteOf (0xC2 + 8 * condCode cc), lowByte a16, highByte a16] ∧
     exec (Instr.jpCc cc a16) s = .next (if holds then { s with pc := a16, outcome := some (.executed 4) }
       else { s with outcome := some (.executed 3) }) ∧
     encode .jpHl = [0xE9] ∧
     exec .jpHl s = .next { s with pc := s.h ++ s.l, outcome := some (.executed 1) } ∧
     encode (.jrR8 r8) = [0x18, r8] ∧
     exec (.jrR8 r8) s = .next { s with pc := relative, outcome := some (.executed 3) } ∧
     encode (Instr.jrCc cc r8) = [byteOf (0x20 + 8 * condCode cc), r8] ∧
     exec (Instr.jrCc cc r8) s = .next (if holds then { s with pc := relative, outcome := some (.executed 3) }
       else { s with outcome := some (.executed 2) }))

/-- R311, R312, R316: CALL a16, CALL cc,a16 (callNzA16, callZA16, callNcA16, callCA16) and RST t (rst00 … rst38) push
the address after the instruction and go to the target; a CALL cc not taken does nothing but end. -/
def Obligations.CallsPushTheReturnAddress : Prop :=
  ∀ (s : State) (cc : Cond) (a16 : Word) (v : RstVec),
    (let called := fun (i : Instr) (target : Word) (n : Nat) =>
       ∃ t, exec i s = .next t ∧ (s.flat → StoresWord s t (s.sp - 2) s.pc) ∧
         t = { (s.write8 (s.sp - 2) (lowByte s.pc)).write8 (s.sp - 2 + 1) (highByte s.pc) with
           sp := s.sp - 2, pc := target, outcome := some (.executed n) }
     encode (.callA16 a16) = [0xCD, lowByte a16, highByte a16] ∧ called (.callA16 a16) a16 6 ∧
     encode (Instr.callCc cc a16) = [byteOf (0xC4 + 8 * condCode cc), lowByte a16, highByte a16] ∧
     (if condHolds cc s.f then called (Instr.callCc cc a16) a16 6
      else exec (Instr.callCc cc a16) s = .next { s with outcome := some (.executed 3) }) ∧
     encode (Instr.rst v) = [byteOf (0xC7 + 8 * rstCode v)] ∧
     called (Instr.rst v) (BitVec.ofNat 16 (8 * rstCode v)) 4)

/-- R313 to R315: RET, RET cc (retNz, retZ, retNc, retC) and RETI pop PC; RETI also sets IME at once and leaves
`ei_pending`. -/
def Obligations.ReturnsPopPc : Prop :=
  ∀ (s : State) (cc : Cond),
    (let lo := s.peek s.sp
     let hi := (s.afterRead s.sp).peek (s.sp + 1)
     let back : Nat → State := fun n => { (s.afterRead s.sp).afterRead (s.sp + 1) with
       sp := s.sp + 2, pc := hi ++ lo, outcome := some (.executed n) }
     encode .ret = [0xC9] ∧ exec .ret s = .next (back 4) ∧
     encode (Instr.retCc cc) = [byteOf (0xC0 + 8 * condCode cc)] ∧
     exec (Instr.retCc cc) s = .next (if condHolds cc s.f then back 5 else { s with outcome := some (.executed 2) }) ∧
     encode .reti = [0xD9] ∧ exec .reti s = .next { back 4 with ime := true })

/-! ### System instructions -/

/-- R340, R342, R343, R344: NOP, STOP (whatever its second byte is), DI and EI. -/
def Obligations.NopStopDiEi : Prop :=
  ∀ (s : State) (v : Byte),
    encode .nop = [0x00] ∧ exec .nop s = .next { s with outcome := some (.executed 1) } ∧
    encode (.stop v) = [0x10, v] ∧
    exec (.stop v) s = .next { s with stopped := true, outcome := some (.executed 1) } ∧
    encode .di = [0xF3] ∧
    exec .di s = .next { s with ime := false, eiPending := false, outcome := some (.executed 1) } ∧
    encode .ei = [0xFB] ∧
    exec .ei s = .next { s with eiPending := true, outcome := some (.executed 1) }

/-- R341: HALT reads IE and IF only under `HALT_BUG = true` with IME = 0; if an enabled interrupt is then requested it
arms the halt bug, and in every other case it halts. -/
def Obligations.HaltHaltsOrArmsTheBug : Prop :=
  ∀ s : State,
    (let ie := s.peek 0xFFFF
     let iflag := (s.afterRead 0xFFFF).peek 0xFF0F
     let looked : State := { (s.afterRead 0xFFFF).afterRead 0xFF0F with outcome := some (.executed 1) }
     encode .halt = [0x76] ∧
     exec .halt s = .next
       (if s.config.haltBug = true ∧ s.ime = false then
          (if ie &&& iflag &&& 0x1F ≠ 0 then { looked with haltBugArmed := true } else { looked with halted := true })
        else { s with halted := true, outcome := some (.executed 1) }))

/-- R360: an illegal opcode (illegalD3 … illegalFD) records itself if nothing is recorded yet, and changes nothing
else; run by a step, the recorded address is the one it was fetched from and PC goes one on (with the halt bug armed,
not, R422). -/
def Obligations.IllegalOpcodesAreRecorded : Prop :=
  (∀ (s : State) (k : IllegalSlot),
    encode (Instr.illegal k) = [illegalByte k] ∧
    exec (Instr.illegal k) s = .next { s with
      fault := if s.fault = none then some ⟨s.opAddr, illegalByte k⟩ else s.fault
      outcome := some (.executed 1) }) ∧
  (∀ (s : State) (k : IllegalSlot), s.isStuck = false → s.halted = false → (s.ime = false ∨ s.pending = 0) →
    s.checked.peek s.pc = illegalByte k →
    ∃ t, step s = .next t ∧ t.pc = (if s.haltBugArmed then s.pc else s.pc + 1) ∧ t.outcome = some (.executed 1) ∧
      t.fault = (if s.fault = none then some ⟨s.pc, illegalByte k⟩ else s.fault))

/-! ### The step -/

/-- R100, R15, R400: when the core is not stuck, a halted one wakes, and no interrupt is dispatched, and the bytes fetched
after the checks of parts 2 and 3 decode to i, the step is exec of i on the state after the fetch, then the end of the EI
delay, then the timer with the instruction's cost. The checks read IE and IF once if the core was halted and once if
IME = 1 (`woken`, `checked`). -/
def Obligations.StepRunsTheDecodedInstruction : Prop :=
  ∀ (s : State) (i : Instr) (rest : List Byte),
    s.isStuck = false → (s.halted = true → s.pending ≠ 0) → (s.ime = false ∨ s.woken.pending = 0) →
    decode s.checked.fetchedBytes = .ok i rest →
    (∃ u, exec i s.checked.afterFetch = .next u ∧
       step s = .next (State.timer u.cycles
         (if s.eiPending && u.eiPending then { u with ime := true, eiPending := false } else u)))

/-- R15, R100, R422: the bytes an instruction is fetched from and the state after the fetch. The opcode comes from PC;
with the halt bug armed it does not advance PC, so the next byte comes from the same address; every other byte
advances PC by 1 modulo 2^16. -/
def Obligations.FetchReadsTheBytesAtPc : Prop :=
  ∀ s : State,
    (let n := opLength (s.peek s.pc)
     let base := if s.haltBugArmed then s.pc else s.pc + 1
     let s1 := s.afterRead s.pc
     let s2 := s1.afterRead base
     let s3 := s2.afterRead (base + 1)
     s.fetchedBytes = [s.peek s.pc, s1.peek base, s2.peek (base + 1)].take n ∧
     s.afterFetch = { ([s1, s2, s3].getD (n - 1) s) with
       pc := base + BitVec.ofNat 16 (n - 1)
       opAddr := s.pc
       haltBugArmed := false })

/-- R401, R420, R403, R404: the step is a total function from state to state and outcome; it is `Stuck` when, and only
when, the core is stopped, or locked by a recorded fault under `ILLEGAL_OPCODE_POLICY = lock`. Under `continue` a
recorded fault stops nothing (R361). `isStuck`, which other statements assume false, is that test. -/
def Obligations.StepIsTotal : Prop :=
  ∀ s : State, ∃ t o, step s = .next t ∧ t.outcome = some o ∧
    (o = .stuck ↔ s.stopped = true ∨ (s.config.illegalPolicy = .lock ∧ s.fault ≠ none)) ∧
    (s.isStuck = true ↔ s.stopped = true ∨ (s.config.illegalPolicy = .lock ∧ s.fault ≠ none)) ∧
    (s.config.illegalPolicy = .goOn → s.stopped = false → s.isStuck = false ∧ o ≠ .stuck) ∧
    (∀ n, o = .idle n → n = 1) ∧ (∀ k n, o = .dispatch k n → n = 5)

/-- R403, R404, R361: a stopped or locked core takes stuck steps, which change nothing (no register, no byte, no
sub-counter, no access, 0 M-cycles), and any number of them leaves it stuck. -/
def Obligations.StuckStepsChangeNothing : Prop :=
  ∀ s : State, (s.stopped = true ∨ (s.config.illegalPolicy = .lock ∧ s.fault ≠ none)) →
    step s = .next { s with trace := [], outcome := some .stuck } ∧
    ({ s with trace := [], outcome := some .stuck } : State).cycles = 0 ∧
    ∀ n, ∃ t, runSteps n s = .next t ∧ t.arch = s.arch

/-- R402: an idle step reads IE and IF, fetches nothing, changes no register and costs 1 M-cycle, which the timer
counts. -/
def Obligations.IdleStepsOnlyRunTheTimer : Prop :=
  ∀ s : State, s.isStuck = false → s.halted = true →
    s.peek 0xFFFF &&& (s.afterRead 0xFFFF).peek 0xFF0F &&& 0x1F = 0 →
    step s = .next (State.timer 1 { (s.afterRead 0xFFFF).afterRead 0xFF0F with
      trace := pendingReads s
      outcome := some (.idle 1) }) ∧
    ∃ t, step s = .next t ∧
      t = { s with mem := t.mem, divAcc := t.divAcc, timaAcc := t.timaAcc, trace := t.trace, outcome := some (.idle 1) }

/-- R421: a halted core with an enabled interrupt requested wakes whatever IME is, and goes on in the same step
exactly as if it had not been halted (after reading IE and IF): with IME = 0 that step executes an instruction; with
IME = 1 it dispatches if `pending()`, read again, is still not 0, which on the reference bus it is. -/
def Obligations.HaltWakesOnAPendingInterrupt : Prop :=
  ∀ s : State, s.isStuck = false → s.halted = true →
    s.peek 0xFFFF &&& (s.afterRead 0xFFFF).peek 0xFF0F &&& 0x1F ≠ 0 →
    (let awake : State := { (s.afterRead 0xFFFF).afterRead 0xFF0F with halted := false }
     (s.flat → awake.pending ≠ 0) ∧
     ∃ t u, step s = .next t ∧ step awake = .next u ∧
       t = { u with trace := pendingReads s ++ u.trace } ∧
       (s.ime = true → awake.pending ≠ 0 → ∃ k, t.outcome = some (.dispatch k 5)) ∧
       ((s.ime = false ∨ awake.pending = 0) → ∃ n, t.outcome = some (.executed n)))

/-- R414 to R417, R410, R422: taking an interrupt. With IME = 1 the lowest set bit k of `IE & IF & 0x1F` is served:
its IF bit is cleared and no other, the return address (PC, or PC - 1 with the halt bug armed) is pushed low byte
first, PC becomes 0x40 + 8k, IME and `ei_pending` become 0, and the timer counts 5 M-cycles. `w` is the state in which
the check reads `pending()` (a halted core has read it once before and is awake), `c` the state after it, `u` the state
before the timer. -/
def Obligations.DispatchTakesTheLowestInterrupt : Prop :=
  ∀ (s : State) (k : Irq), s.isStuck = false → s.ime = true → (s.halted = true → s.pending ≠ 0) →
    (let w : State :=
       if s.halted then { (s.afterRead 0xFFFF).afterRead 0xFF0F with halted := false, trace := pendingReads s }
       else { s with trace := [] }
     let p := w.peek 0xFFFF &&& (w.afterRead 0xFFFF).peek 0xFF0F &&& 0x1F
     let c := (w.afterRead 0xFFFF).afterRead 0xFF0F
     let ret := if s.haltBugArmed then s.pc - 1 else s.pc
     let cleared := c.peek 0xFF0F &&& ~~~ (byteOf (2 ^ k.bit))
     p.toNat.testBit k.bit = true → (∀ j, j < k.bit → p.toNat.testBit j = false) →
     ∃ u, step s = .next (State.timer 5 u) ∧
       u = { (((c.afterRead 0xFF0F).write8 0xFF0F cleared).write8 (s.sp - 2) (lowByte ret)).write8
             (s.sp - 2 + 1) (highByte ret) with
         sp := s.sp - 2
         pc := 0x0040 + BitVec.ofNat 16 (8 * k.bit)
         ime := false
         eiPending := false
         haltBugArmed := false
         outcome := some (.dispatch k 5) } ∧
       (s.flat → p = s.peek 0xFFFF &&& s.peek 0xFF0F &&& 0x1F ∧ ∀ x, u.peek x =
         if x = s.sp - 1 then highByte ret else if x = s.sp - 2 then lowByte ret
         else if x = 0xFF0F then s.peek 0xFF0F &&& ~~~ (byteOf (2 ^ k.bit)) else s.peek x))

/-- R405: the EI delay. At the end of an instruction step IME is what the instruction left, or 1 if `ei_pending` was 1
at the start and still is; idle steps do not end the delay, and with IME = 0 no step dispatches. -/
def Obligations.EiTakesEffectAfterTheNextInstruction : Prop :=
  (∀ (s t : State) (i : Instr) (rest : List Byte),
    s.isStuck = false → (s.halted = true → s.pending ≠ 0) → (s.ime = false ∨ s.woken.pending = 0) →
    decode s.checked.fetchedBytes = .ok i rest → step s = .next t →
    ∃ u, exec i s.checked.afterFetch = .next u ∧
      t.ime = (u.ime || (s.eiPending && u.eiPending)) ∧ t.eiPending = (u.eiPending && !s.eiPending)) ∧
  (∀ s t n, step s = .next t → t.outcome = some (.idle n) → t.ime = s.ime ∧ t.eiPending = s.eiPending) ∧
  (∀ s t k n, step s = .next t → t.outcome = some (.dispatch k n) → s.ime = true ∧ t.ime = false ∧ t.eiPending = false)

/-! ### Whole-machine rules -/

/-- R413, R418: IME becomes 1 in a step only by RETI or the end of an EI delay, and becomes 0 only by DI or by a
dispatch. (`s.checked.fetchedBytes` are the bytes the step fetches, after its checks.) -/
def Obligations.OnlyTheseEventsChangeIme : Prop :=
  ∀ s t : State, step s = .next t →
    (s.ime = false → t.ime = true →
      s.eiPending = true ∨ ∃ rest, decode s.checked.fetchedBytes = .ok .reti rest) ∧
    (s.ime = true → t.ime = false →
      (∃ k, t.outcome = some (.dispatch k 5)) ∨ ∃ rest, decode s.checked.fetchedBytes = .ok .di rest) ∧
    (t.eiPending = true → s.eiPending = false → ∃ rest, decode s.checked.fetchedBytes = .ok .ei rest)

/-- R439: HALT and STOP are the only two instructions that suspend the core, and only HALT arms the halt bug. -/
def Obligations.OnlyHaltAndStopSuspend : Prop :=
  ∀ s t : State, step s = .next t →
    (s.halted = false → t.halted = true → ∃ rest, decode s.checked.fetchedBytes = .ok .halt rest) ∧
    (s.stopped = false → t.stopped = true → ∃ v rest, decode s.checked.fetchedBytes = .ok (.stop v) rest) ∧
    (s.haltBugArmed = false → t.haltBugArmed = true → ∃ rest, decode s.checked.fetchedBytes = .ok .halt rest)

/-- R47: the marker is sticky, records the first illegal opcode with its address, is cleared by no host input but
reset, and stops the core under `lock`. That the parameters stand in the state, and that no step and no input of the host
changes them, is the model's choice (notes/assumptions/2.md, DESIGN CHOICE). -/
def Obligations.FaultIsStickyUntilReset : Prop :=
  State.reset.fault = none ∧
  (∀ s t : State, step s = .next t →
    t.config = s.config ∧
    (s.fault ≠ none → t.fault = s.fault) ∧
    (s.fault = none → t.fault ≠ none → ∃ k rest, decode s.checked.fetchedBytes = .ok (Instr.illegal k) rest ∧
      t.fault = some ⟨s.pc, illegalByte k⟩)) ∧
  (∀ (s : State) (x : HostInput), (applyInput x s).config = s.config ∧
    ((∀ p, x ≠ .reset p) → (applyInput x s).fault = s.fault)) ∧
  (∀ (s : State) (p : BootProfile), (applyInput (.reset p) s).fault = none) ∧
  (∀ s : State, s.config.illegalPolicy = .lock → s.fault ≠ none →
    step s = .next { s with trace := [], outcome := some .stuck })

/-- The record of accesses, the latched opcode address and the last outcome, which are the model's own fields
(notes/assumptions/7.md), do not influence what the spec gives the machine: two states that differ only in them
step to states that differ at most in `opAddr`, with the same outcome and the same accesses. -/
def Obligations.OwnFieldsDoNotInfluenceTheMachine : Prop :=
  ∀ s s' : State, s.arch = s'.arch → ∃ t t', step s = .next t ∧ step s' = .next t' ∧
    t.arch = t'.arch ∧ t.outcome = t'.outcome ∧ t.trace = t'.trace

/-- Every state that meets the invariant steps to one that meets it. -/
def Obligations.StepKeepsTheInvariant : Prop :=
  ∀ s t : State, s.Inv → step s = .next t → t.Inv

/-- The state after reset meets the invariant. -/
def Obligations.ResetMeetsTheInvariant : Prop := State.reset.Inv

/-- R438: every host input, and so every sequence of steps and inputs, keeps the invariant and completes. -/
def Obligations.EventsKeepTheInvariant : Prop :=
  ∀ (evs : List Event) (s : State), s.Inv → ∃ t, runEvents evs s = .next t ∧ t.Inv

/-! ### The timer -/

/-- R430: `timer(m)` is the two loops of its pseudocode. -/
def Obligations.TimerRunsItsLoops : Prop :=
  ∀ (m : Nat) (s : State), State.timer m s = specTimer m s

/-- R431, R52: DIV counts one for every 256 clocks whatever TAC holds, modulo 256, and keeps the rest in `div_acc`. DIV is
given after its loop on every bus that stores the timer's writes as written (R76), and after the whole timer on the
reference bus, which is one of them. -/
def Obligations.DivCountsEvery256Clocks : Prop :=
  StoresTimerWrites .reference ∧
  ∀ (m : Nat) (s : State),
    (State.timer m s).divAcc = (s.divAcc + 4 * m) % 256 ∧
    (State.timer m s).divAcc < 256 ∧
    (StoresTimerWrites s.config.bus →
      (s.drainDiv (s.divAcc + 4 * m)).peek 0xFF04 = byteOf
        (((s.peek 0xFF04).toNat + (s.divAcc + 4 * m) / 256) % 256)) ∧
    (s.flat → (State.timer m s).peek 0xFF04 = byteOf (((s.peek 0xFF04).toNat + (s.divAcc + 4 * m) / 256) % 256))

/-- R432, R433, R412, R46, on the reference bus: with TAC bit 2 set, TIMA counts one for every selected period and keeps the rest in
`tima_acc`; past 0xFF it is reloaded from TMA and the Timer request bit is set, no other IF bit changing. With TAC bit
2 clear nothing of it moves. -/
def Obligations.TimaCountsAndReloads : Prop :=
  ∀ (m : Nat) (s : State), s.flat →
    (let tac := s.peek 0xFF07
     let period := [1024, 16, 64, 256].getD (tac.toNat % 4) 0
     let n := (s.timaAcc + 4 * m) / period
     let t := State.timer m s
     if tac.toNat.testBit 2 then
       t.timaAcc = (s.timaAcc + 4 * m) % period ∧ t.timaAcc < period ∧
       t.peek 0xFF05 = timaAfter (s.peek 0xFF06) n (s.peek 0xFF05) ∧
       t.peek 0xFF0F = (if (s.peek 0xFF05).toNat + n ≥ 256 then s.peek 0xFF0F ||| 0x04 else s.peek 0xFF0F)
     else
       t.timaAcc = s.timaAcc ∧ t.peek 0xFF05 = s.peek 0xFF05 ∧ t.peek 0xFF0F = s.peek 0xFF0F)

/-- R430, R83: the timer changes nothing but its two sub-counters and, through the bus, DIV, TIMA and IF (on the reference
bus no other byte, and of IF no other bit than the Timer's). -/
def Obligations.TimerTouchesOnlyItsRegisters : Prop :=
  ∀ (m : Nat) (s : State),
    (let t := State.timer m s
     t = { s with mem := t.mem, divAcc := t.divAcc, timaAcc := t.timaAcc, trace := t.trace } ∧
     (s.flat → (∀ x, x ≠ 0xFF04 → x ≠ 0xFF05 → x ≠ 0xFF0F → t.peek x = s.peek x) ∧
       ∀ j, j ≠ 2 → (t.peek 0xFF0F).getLsbD j = (s.peek 0xFF0F).getLsbD j))

/-! ### Registers, memory, reset and the host -/

/-- R30, R31, R34, R35, R104, R105: which register or pair each name selects, in reading and in writing; the pairs are
views of their halves, F is Z N H C 0000, a write of AF masks the low nibble; and a register write changes that register
alone. -/
def Obligations.RegistersPairsAndFlags : Prop :=
  ∀ (s : State) (v : Word) (r q : Reg8) (x : Byte),
    (s.reg8 .b = s.b ∧ s.reg8 .c = s.c ∧ s.reg8 .d = s.d ∧ s.reg8 .e = s.e ∧ s.reg8 .h = s.h ∧ s.reg8 .l = s.l ∧
      s.reg8 .a = s.a) ∧
    (s.setReg8 .b x = { s with b := x } ∧ s.setReg8 .c x = { s with c := x } ∧ s.setReg8 .d x = { s with d := x } ∧
      s.setReg8 .e x = { s with e := x } ∧ s.setReg8 .h x = { s with h := x } ∧ s.setReg8 .l x = { s with l := x } ∧
      s.setReg8 .a x = { s with a := x }) ∧
    (s.pair1 .bc = s.b ++ s.c ∧ s.pair1 .de = s.d ++ s.e ∧ s.pair1 .hl = s.h ++ s.l ∧ s.pair1 .sp = s.sp) ∧
    (s.setPair1 .bc v = { s with b := highByte v, c := lowByte v } ∧
      s.setPair1 .de v = { s with d := highByte v, e := lowByte v } ∧
      s.setPair1 .hl v = { s with h := highByte v, l := lowByte v } ∧ s.setPair1 .sp v = { s with sp := v }) ∧
    (s.pair2 .bc = s.b ++ s.c ∧ s.pair2 .de = s.d ++ s.e ∧ s.pair2 .hl = s.h ++ s.l ∧
      s.pair2 .af = s.a ++ s.f.toByte) ∧
    (s.setPair2 .bc v = { s with b := highByte v, c := lowByte v } ∧
      s.setPair2 .de v = { s with d := highByte v, e := lowByte v } ∧
      s.setPair2 .hl v = { s with h := highByte v, l := lowByte v } ∧ s.setPair2 .af v = s.setAf v) ∧
    s.af = s.a ++ s.f.toByte ∧ s.bc = s.b ++ s.c ∧ s.de = s.d ++ s.e ∧ s.hl = s.h ++ s.l ∧
    s.setBc v = { s with b := highByte v, c := lowByte v } ∧ (s.setBc v).bc = v ∧
    s.setDe v = { s with d := highByte v, e := lowByte v } ∧ (s.setDe v).de = v ∧
    s.setHl v = { s with h := highByte v, l := lowByte v } ∧ (s.setHl v).hl = v ∧
    (∃ f, s.setAf v = { s with a := highByte v, f := f }) ∧ (s.setAf v).f.toByte = lowByte v &&& 0xF0 ∧
    (s.setAf v).af = v &&& 0xFFF0 ∧
    s.f.toByte.toNat = 128 * s.f.z.toNat + 64 * s.f.n.toNat + 32 * s.f.h.toNat + 16 * s.f.c.toNat ∧
    (s.setReg8 r x).reg8 q = (if q = r then x else s.reg8 q) ∧
    s.setReg8 r x = { s with
      a := (s.setReg8 r x).a, b := (s.setReg8 r x).b, c := (s.setReg8 r x).c, d := (s.setReg8 r x).d
      e := (s.setReg8 r x).e, h := (s.setReg8 r x).h, l := (s.setReg8 r x).l }

/-- R70, R76, R14, R77: on every bus an access changes the bus's state, as the bus's own functions say, and the record of
accesses, and nothing else; a 16-bit access is its two bytes, low byte first at the lower address, addresses modulo 2^16,
the second byte accessed in the state the first access leaves. R84, R72, R73, on the reference bus: a byte or word written
is read back and every other byte is unchanged; a read changes nothing but the record. -/
def Obligations.BusReturnsTheByteLastWritten : Prop :=
  (∀ (s : State) (a v : Word) (w : Byte),
    s.peek a = s.config.bus.read8 s.mem a ∧
    s.afterRead a = { s with
      mem := s.config.bus.afterRead8 s.mem a, trace := s.trace ++ [.read a (s.peek a)] } ∧
    s.write8 a w = { s with mem := s.config.bus.afterWrite8 s.mem false a w, trace := s.trace ++ [.write a w] } ∧
    s.timerWrite8 a w = { s with
      mem := s.config.bus.afterWrite8 s.mem true a w, trace := s.trace ++ [.write a w] } ∧
    s.peek16 a = (s.afterRead a).peek (a + 1) ++ s.peek a ∧
    s.afterRead16 a = (s.afterRead a).afterRead (a + 1) ∧
    s.write16 a v = (s.write8 a (lowByte v)).write8 (a + 1) (highByte v)) ∧
  (∀ (s : State) (a x v : Word) (w : Byte), s.flat →
    s.afterRead a = { s with trace := s.trace ++ [.read a (s.peek a)] } ∧
    (s.afterRead a).peek x = s.peek x ∧
    (s.write8 a w).peek x = (if x = a then w else s.peek x) ∧
    (s.timerWrite8 a w).peek x = (if x = a then w else s.peek x) ∧
    (s.write16 a v).peek a = lowByte v ∧ (s.write16 a v).peek (a + 1) = highByte v ∧
    (s.write16 a v).peek16 a = v ∧
    (x ≠ a → x ≠ a + 1 → (s.write16 a v).peek x = s.peek x))

/-- R501, R502, R500, R503: the state that `reset(profile)` leaves, from any state: every register, flag and hidden
bit at its value, the bus and the parameters as they were (R505); from either profile the first step executes an
instruction (R504). -/
def Obligations.ResetValues : Prop :=
  ∀ s : State,
    applyInput (.reset .powerOn) s = {
      a := 0x00, f := Flags.ofByte 0x00, b := 0x00, c := 0x00, d := 0x00, e := 0x00, h := 0x00, l := 0x00
      sp := 0x0000, pc := 0x0000, ime := false, eiPending := false, halted := false, stopped := false
      haltBugArmed := false, divAcc := 0, timaAcc := 0, fault := none
      mem := s.mem, config := s.config, trace := [], opAddr := 0, outcome := none } ∧
    applyInput (.reset .dmgPostBoot) s = {
      a := 0x01, f := Flags.ofByte 0xB0, b := 0x00, c := 0x13, d := 0x00, e := 0xD8, h := 0x01, l := 0x4D
      sp := 0xFFFE, pc := 0x0100, ime := false, eiPending := false, halted := false, stopped := false
      haltBugArmed := false, divAcc := 0, timaAcc := 0, fault := none
      mem := s.mem, config := s.config, trace := [], opAddr := 0, outcome := none } ∧
    State.reset.arch = (applyInput (.reset .powerOn) State.reset).arch ∧
    State.reset.flat ∧ (∀ x, State.reset.peek x = 0x00) ∧
    ∀ p, ∃ t n, step (applyInput (.reset p) s) = .next t ∧ t.outcome = some (.executed n)

/-- R412, R423, R438, R507: the host's other inputs. `requestInterrupt(k)` sets bit k of IF and no other byte or bit;
`wake()` clears `stopped` and nothing else, and does nothing to a core that is not stopped; a bus access of the host
reads or writes the one byte. -/
def Obligations.HostInputsDoOnlyThis : Prop :=
  ∀ (s : State) (k : Irq) (a : Word) (v : Byte),
    (let t := applyInput (.requestInterrupt k) s
     t = (s.afterRead 0xFF0F).write8 0xFF0F (s.peek 0xFF0F ||| byteOf (2 ^ k.bit)) ∧
     (s.flat → StoresByte s t 0xFF0F (s.peek 0xFF0F ||| byteOf (2 ^ k.bit)))) ∧
    applyInput .wake s = { s with stopped := false } ∧
    (s.stopped = false → applyInput .wake s = s) ∧
    applyInput (.busRead a) s = { s with mem := s.config.bus.afterRead8 s.mem a } ∧
    (s.flat → applyInput (.busRead a) s = s) ∧ inputAnswer (.busRead a) s = some (s.peek a) ∧
    (let t := applyInput (.busWrite a v) s
     t = { s with mem := s.config.bus.afterWrite8 s.mem false a v } ∧ (s.flat → StoresByte s t a v))

end
end

