-- ==== Sys2Proof/Laws/Memory.lean ====
section
/-! SUPPORT. The laws of a bus's storage: read after write, the canonical form, and that equal reads in
canonical form are equal data. -/

namespace Sys2Proof.Machine

@[simp] theorem Memory.read_nil (a : Nat) : Memory.read [] a = unlisted := rfl

theorem Memory.read_cons (k : Nat) (v : Byte) (m : Memory) (a : Nat) :
    Memory.read ((k, v) :: m) a = if k = a then v else Memory.read m a := rfl

theorem Memory.read_erase (m : Memory) (a b : Nat) :
    (Memory.erase m a).read b = if b = a then unlisted else m.read b := by
  induction m with
  | nil => simp [Memory.erase]
  | cons x m ih =>
    obtain ⟨k, v⟩ := x
    by_cases hk : k = a
    · subst hk
      have h : Memory.erase ((k, v) :: m) k = Memory.erase m k := by simp [Memory.erase]
      rw [h, ih, Memory.read_cons]
      by_cases hb : b = k
      · simp [hb]
      · simp [hb, Ne.symm hb]
    · have h : Memory.erase ((k, v) :: m) a = (k, v) :: Memory.erase m a := by simp [Memory.erase, hk]
      rw [h, Memory.read_cons, Memory.read_cons, ih]
      by_cases hb : b = a
      · subst hb; simp [hk]
      · simp [hb]

theorem Memory.not_listed_read (m : Memory) (a : Nat) (h : ∀ x ∈ m, x.1 ≠ a) : m.read a = unlisted := by
  induction m with
  | nil => rfl
  | cons x m ih =>
    rw [show x = (x.1, x.2) from rfl, Memory.read_cons, if_neg (h x (by simp))]
    exact ih fun y hy => h y (by simp [hy])

theorem Memory.read_insert (m : Memory) (a b : Nat) (v : Byte) (h : ∀ x ∈ m, x.1 ≠ a) :
    (Memory.insert a v m).read b = if b = a then v else m.read b := by
  induction m with
  | nil => simp [Memory.insert, Memory.read_cons, eq_comm]
  | cons x m ih =>
    obtain ⟨k, w⟩ := x
    have hk : k ≠ a := h (k, w) (by simp)
    unfold Memory.insert
    split
    · simp [Memory.read_cons, eq_comm]
    · rw [Memory.read_cons, ih fun y hy => h y (by simp [hy]), Memory.read_cons]
      by_cases hb : b = a
      · subst hb; simp [hk]
      · simp [hb]

theorem Memory.mem_erase {m : Memory} {a : Nat} {x : Host.Cell} : x ∈ Memory.erase m a ↔ x ∈ m ∧ x.1 ≠ a := by
  simp [Memory.erase]

/-- Read after write (R84): the byte last written. -/
theorem Memory.read_write (m : Memory) (a b : Nat) (v : Byte) :
    (m.write a v).read b = if b = a then v else m.read b := by
  unfold Memory.write
  split
  · rename_i h; rw [Memory.read_erase, h]
  · rw [Memory.read_insert _ _ _ _ fun x hx => (Memory.mem_erase.1 hx).2, Memory.read_erase]
    by_cases hb : b = a <;> simp [hb]

@[simp] theorem Memory.read_write_same (m : Memory) (a : Nat) (v : Byte) : (m.write a v).read a = v := by
  simp [Memory.read_write]

theorem Memory.read_write_other (m : Memory) {a b : Nat} (v : Byte) (h : b ≠ a) :
    (m.write a v).read b = m.read b := by
  simp [Memory.read_write, h]

/-! ### The canonical form -/

/-- The canonical form as a proposition, entry by entry. -/
theorem Memory.wf_cons (k : Nat) (v : Byte) (m : Memory) :
    Memory.wf ((k, v) :: m) = true ↔
      v ≠ unlisted ∧ (∀ x ∈ m, k < x.1) ∧ m.wf = true := by
  simp [Memory.wf, and_assoc]

theorem Memory.wf_filter (p : Host.Cell → Bool) {m : Memory} (h : m.wf = true) : Memory.wf (m.filter p) = true := by
  induction m with
  | nil => rfl
  | cons x m ih =>
    obtain ⟨k, v⟩ := x
    obtain ⟨h2, h3, h4⟩ := (Memory.wf_cons k v m).1 h
    by_cases hp : p (k, v) = true
    · rw [List.filter_cons_of_pos hp, Memory.wf_cons]
      exact ⟨h2, fun x hx => h3 x (List.mem_of_mem_filter hx), ih h4⟩
    · rw [List.filter_cons_of_neg hp]; exact ih h4

theorem Memory.mem_insert {a : Nat} {v : Byte} {m : Memory} {x : Host.Cell} (h : x ∈ Memory.insert a v m) :
    x = (a, v) ∨ x ∈ m := by
  induction m with
  | nil => exact .inl (by simpa [Memory.insert] using h)
  | cons y m ih =>
    obtain ⟨k, w⟩ := y
    unfold Memory.insert at h
    split at h
    · simpa using h
    · rcases List.mem_cons.1 h with h | h
      · exact .inr (by simp [h])
      · exact (ih h).imp id fun h => by simp [h]

theorem Memory.wf_insert {a : Nat} {v : Byte} {m : Memory} (hv : v ≠ unlisted)
    (hm : m.wf = true) (hn : ∀ x ∈ m, x.1 ≠ a) : Memory.wf (Memory.insert a v m) = true := by
  induction m with
  | nil => simp [Memory.insert, Memory.wf, hv]
  | cons y m ih =>
    obtain ⟨k, w⟩ := y
    obtain ⟨h2, h3, h4⟩ := (Memory.wf_cons k w m).1 hm
    have hk : k ≠ a := hn (k, w) (by simp)
    unfold Memory.insert
    split
    · rename_i hlt
      refine (Memory.wf_cons _ _ _).2 ⟨hv, fun x hx => ?_, hm⟩
      rcases List.mem_cons.1 hx with rfl | hx
      · exact hlt
      · exact Nat.lt_trans hlt (h3 x hx)
    · refine (Memory.wf_cons _ _ _).2 ⟨h2, fun x hx => ?_, ih h4 fun x hx => hn x (by simp [hx])⟩
      rcases Memory.mem_insert hx with rfl | hx
      · show k < a
        omega
      · exact h3 x hx

/-- A write keeps the canonical form. -/
theorem Memory.wf_write {m : Memory} (a : Nat) (v : Byte) (hm : m.wf = true) : (m.write a v).wf = true := by
  unfold Memory.write
  split
  · exact Memory.wf_filter _ hm
  · rename_i hv
    exact Memory.wf_insert hv (Memory.wf_filter _ hm) fun x hx => (Memory.mem_erase.1 hx).2

/-- What a write can list: what was listed, and its own key. -/
theorem Memory.mem_write {m : Memory} {a : Nat} {v : Byte} {x : Host.Cell} (h : x ∈ m.write a v) : x.1 = a ∨ x ∈ m := by
  unfold Memory.write at h
  split at h
  · exact .inr (Memory.mem_erase.1 h).1
  · rcases Memory.mem_insert h with rfl | h
    · exact .inl rfl
    · exact .inr (Memory.mem_erase.1 h).1

/-- A write at an address lists no key outside the address space. -/
theorem Memory.inAddressSpace_write {m : Memory} {a : Nat} (v : Byte) (ha : a < addressSpace)
    (hm : m.inAddressSpace = true) : (m.write a v).inAddressSpace = true := by
  simp only [Memory.inAddressSpace, List.all_eq_true, decide_eq_true_eq] at hm ⊢
  intro x hx
  rcases Memory.mem_write hx with h | h
  · omega
  · exact hm x h

/-- In canonical form, memories that read alike are equal data. -/
theorem Memory.wf_ext {m m' : Memory} (h : m.wf = true) (h' : m'.wf = true)
    (hr : ∀ a, m.read a = m'.read a) : m = m' := by
  induction m generalizing m' with
  | nil =>
    cases m' with
    | nil => rfl
    | cons y m' =>
      obtain ⟨k, v⟩ := y
      obtain ⟨h2, -, -⟩ := (Memory.wf_cons k v m').1 h'
      exact absurd (by simpa [Memory.read_cons] using (hr k).symm) h2
  | cons x m ih =>
    obtain ⟨k, v⟩ := x
    obtain ⟨h2, h3, h4⟩ := (Memory.wf_cons k v m).1 h
    cases m' with
    | nil => exact absurd (by simpa [Memory.read_cons] using hr k) h2
    | cons y m' =>
      obtain ⟨k', v'⟩ := y
      obtain ⟨h2', h3', h4'⟩ := (Memory.wf_cons k' v' m').1 h'
      have below : ∀ (n : Memory) (a b : Nat), (∀ x ∈ n, a < x.1) → b ≤ a → n.read b = unlisted := fun n a b hn hb =>
        Memory.not_listed_read n b fun x hx => by have := hn x hx; omega
      have hkk : k = k' := by
        rcases Nat.lt_trichotomy k k' with hlt | heq | hlt
        · have := hr k
          rw [Memory.read_cons, if_pos rfl, Memory.read_cons, if_neg (by omega), below m' k' k h3' (by omega)] at this
          exact absurd this h2
        · exact heq
        · have := hr k'
          rw [Memory.read_cons, if_neg (by omega), below m k k' h3 (by omega), Memory.read_cons, if_pos rfl] at this
          exact absurd this.symm h2'
      subst hkk
      have hvv : v = v' := by simpa [Memory.read_cons] using hr k
      subst hvv
      congr 1
      refine ih h4 h4' fun a => ?_
      by_cases hak : a = k
      · subst hak
        rw [below m a a h3 (Nat.le_refl _), below m' a a h3' (Nat.le_refl _)]
      · have := hr a
        rwa [Memory.read_cons, Memory.read_cons, if_neg (Ne.symm hak), if_neg (Ne.symm hak)] at this

end Sys2Proof.Machine
end

