-- ==== Sys2Proof/Laws/Bus.lean ====
section
/-! SUPPORT. The laws of a bus: every access keeps the storage's canonical form, the reference bus returns the byte last
written (R84), and every memory interface with finitely many states is a value of `BUS` (R11, R70). -/

namespace Sys2Proof
open Machine

/-! ### Every bus -/

/-- A bus's state: the storage is in canonical form, and on the reference bus it is the 65,536 bytes of R84. -/
structure BusOk (bus : Bus) (m : Memory) : Prop where
  wf : m.wf = true
  flat : bus = .reference → m.inAddressSpace = true

/-- An access keeps the canonical form, whatever it does. -/
theorem BusAction.wf_run (m : Memory) (call : BusCall) (x : BusAction) {n : Memory} (h : n.wf = true) :
    (x.run m call n).wf = true := by
  induction x generalizing n with
  | nothing => exact h
  | store key byte => exact Memory.wf_write _ _ h
  | both first second ih1 ih2 => exact ih2 (ih1 h)
  | ifElse condition x y ih1 ih2 =>
    simp only [BusAction.run]
    split
    · exact ih2 h
    · exact ih1 h

/-! ### The reference bus (R84) -/

@[simp] theorem Bus.read8_reference (m : Memory) (a : Word) : Bus.reference.read8 m a = m.read a.toNat := by
  simp [Bus.read8, Bus.reference, BusTerm.eval, readCall]

@[simp] theorem Bus.afterRead8_reference (m : Memory) (a : Word) : Bus.reference.afterRead8 m a = m := rfl

@[simp] theorem Bus.afterWrite8_reference (m : Memory) (t : Bool) (a : Word) (v : Byte) :
    Bus.reference.afterWrite8 m t a v = m.write a.toNat v := by
  simp [Bus.afterWrite8, Bus.reference, BusAction.run, BusTerm.eval, writeCall]

/-- The reference bus stores the timer's writes as written (R76). -/
theorem Bus.reference_keeps_timer_writes (m : Memory) (a : Word) (v : Byte) :
    Bus.reference.read8 (Bus.reference.afterWrite8 m true a v) a = v := by simp

/-- A read keeps the state of the bus in order. -/
theorem BusOk.read {bus : Bus} {m : Memory} (a : Word) (h : BusOk bus m) : BusOk bus (bus.afterRead8 m a) :=
  ⟨BusAction.wf_run _ _ _ h.wf, fun e => by subst e; exact h.flat rfl⟩

/-- A write keeps the state of the bus in order. -/
theorem BusOk.write {bus : Bus} {m : Memory} (t : Bool) (a : Word) (v : Byte) (h : BusOk bus m) :
    BusOk bus (bus.afterWrite8 m t a v) :=
  ⟨BusAction.wf_run _ _ _ h.wf, fun e => by
    subst e
    rw [Bus.afterWrite8_reference]
    exact Memory.inAddressSpace_write _ a.isLt (h.flat rfl)⟩

/-- Two reads keep the state of the bus in order. -/
theorem BusOk.read_read {bus : Bus} {m : Memory} (a b : Word) (h : BusOk bus m) :
    BusOk bus (bus.afterRead8 (bus.afterRead8 m a) b) := (h.read a).read b

/-- A read and a write keep the state of the bus in order. -/
theorem BusOk.read_write {bus : Bus} {m : Memory} (t : Bool) (a b : Word) (v : Byte) (h : BusOk bus m) :
    BusOk bus (bus.afterWrite8 (bus.afterRead8 m a) t b v) := (h.read a).write t b v

/-- Two writes keep the state of the bus in order. -/
theorem BusOk.write_write {bus : Bus} {m : Memory} (t t' : Bool) (a b : Word) (v w : Byte) (h : BusOk bus m) :
    BusOk bus (bus.afterWrite8 (bus.afterWrite8 m t a v) t' b w) := (h.write t a v).write t' b w

/-! ### Every memory interface with finitely many states is a value of `BUS`

The state number q of such an interface stands in the storage as its base-256 digits, under keys outside the address
space; a description looks the reply and the next state up in tables over q, the address and the byte written. -/

/-- The key of digit `i` of the state number. -/
def digitKey (i : Nat) : Nat := addressSpace + i

/-- Digit `i` of a state number. -/
def digit (q i : Nat) : Nat := q / 256 ^ i % 256

/-- The storage stands for the state number q, written in `k` digits. -/
def Represents (k : Nat) (m : Memory) (q : Nat) : Prop := ∀ i, i < k → (m.read (digitKey i)).toNat = digit q i

/-- The state number as a term. -/
def stateTerm : Nat → BusTerm
  | 0 => .lit 0
  | k + 1 => .op .add (stateTerm k) (.op .mul (.cell (.lit (digitKey k))) (.lit (256 ^ k)))

theorem eval_stateTerm {k : Nat} {m : Memory} {q : Nat} (call : BusCall) (h : Represents k m q) :
    (stateTerm k).eval m call = q % 256 ^ k := by
  induction k with
  | zero => simp [stateTerm, BusTerm.eval, Nat.mod_one]
  | succ k ih =>
    have hk := h k (Nat.lt_succ_self k)
    simp only [stateTerm, BusTerm.eval, BusOp.eval, ih fun i hi => h i (by omega), hk, digit]
    rw [Nat.pow_succ, Nat.mod_mul, Nat.mul_comm (256 ^ k) (q / 256 ^ k % 256)]

/-- A table of terms, looked up by a term. -/
def lookup (x : BusTerm) (f : Nat → BusTerm) : Nat → BusTerm
  | 0 => .lit 0
  | n + 1 => .ifElse (.op .eq x (.lit n)) (f n) (lookup x f n)

theorem eval_lookup (m : Memory) (call : BusCall) (x : BusTerm) (f : Nat → BusTerm) {n : Nat}
    (h : x.eval m call < n) : (lookup x f n).eval m call = (f (x.eval m call)).eval m call := by
  induction n with
  | zero => omega
  | succ n ih =>
    simp only [lookup, BusTerm.eval, BusOp.eval, numberOf]
    by_cases e : x.eval m call = n
    · simp [e]
    · simp [e, ih (by omega)]

/-- A function of the state number, the address, the byte and the timer's flag, as a table. -/
def tableTerm (k n : Nat) (f : Nat → Nat → Nat → Nat → Nat) : BusTerm :=
  lookup (stateTerm k) (fun q => lookup .address (fun a => lookup .value (fun v => lookup .byTimer
    (fun t => .lit (f q a v t)) 2) 256) addressSpace) n

theorem eval_tableTerm {k n : Nat} (f : Nat → Nat → Nat → Nat → Nat) {m : Memory} {q : Nat} {call : BusCall}
    (hk : n ≤ 256 ^ k) (hq : q < n) (ha : call.address < addressSpace) (hv : call.value < 256)
    (h : Represents k m q) :
    (tableTerm k n f).eval m call = f q call.address call.value (numberOf call.byTimer) := by
  have e : (stateTerm k).eval m call = q := by rw [eval_stateTerm call h, Nat.mod_eq_of_lt (by omega)]
  have ht : (BusTerm.byTimer).eval m call < 2 := by cases h : call.byTimer <;> simp [BusTerm.eval, numberOf, h]
  unfold tableTerm
  rw [eval_lookup _ _ _ _ (by rw [e]; exact hq), e]
  rw [eval_lookup _ _ _ _ (show BusTerm.address.eval m call < addressSpace from ha)]
  rw [eval_lookup _ _ _ _ (show BusTerm.value.eval m call < 256 from hv), eval_lookup _ _ _ _ ht]
  rfl

/-- The stores of the first `j` digits of a number. -/
def storeDigits (x : BusTerm) : Nat → BusAction
  | 0 => .nothing
  | j + 1 => .both (storeDigits x j) (.store (.lit (digitKey j)) (.op .div x (.lit (256 ^ j))))

theorem read_storeDigits (m : Memory) (call : BusCall) (x : BusTerm) (k : Nat) (n : Memory) (i : Nat) (h : i < k) :
    (((storeDigits x k).run m call n).read (digitKey i)).toNat = digit (x.eval m call) i := by
  induction k with
  | zero => omega
  | succ k ih =>
    simp only [storeDigits, BusAction.run, BusTerm.eval, BusOp.eval, Memory.read_write]
    by_cases e : i = k
    · subst e; simp [digit]
    · rw [if_neg (by unfold digitKey; omega)]
      exact ih (by omega)

/-- The bus with the given tables. -/
def tableBus (k n : Nat) (reply afterRead : Nat → Nat → Nat) (afterWrite : Nat → Nat → Nat → Nat → Nat) : Bus :=
  ⟨tableTerm k n fun q a _ _ => reply q a, storeDigits (tableTerm k n fun q a _ _ => afterRead q a) k,
    storeDigits (tableTerm k n afterWrite) k⟩

/-- The first digits of a number, stored from nothing. -/
def digitMemory (q : Nat) : Nat → Memory
  | 0 => []
  | j + 1 => (digitMemory q j).write (digitKey j) (BitVec.ofNat 8 (q / 256 ^ j))

theorem represents_digitMemory (q k : Nat) : Represents k (digitMemory q k) q := by
  induction k with
  | zero => intro i hi; omega
  | succ k ih =>
    intro i hi
    simp only [digitMemory, Memory.read_write]
    by_cases e : i = k
    · subst e; simp [digit]
    · rw [if_neg (by unfold digitKey; omega)]
      exact ih i (by omega)

/-- R11, R70: for every memory interface with `n` states (a state is a number below n) and any two total functions, one
that reads and one that writes, some value of `BUS` behaves as it does: each of its states is represented by some
storage, a read returns the interface's byte, and both accesses lead from storage that represents a state to storage that
represents the interface's next state. -/
theorem Bus.every_finite_interface (n : Nat) (read8 : Nat → Word → Byte × Nat) (write8 : Bool → Nat → Word → Byte → Nat) :
    ∃ (bus : Bus) (represents : Memory → Nat → Prop),
      (∀ q, q < n → ∃ m, represents m q) ∧
      ∀ m q, q < n → represents m q →
        (∀ a, bus.read8 m a = (read8 q a).1 ∧ represents (bus.afterRead8 m a) (read8 q a).2) ∧
        (∀ t a v, represents (bus.afterWrite8 m t a v) (write8 t q a v)) := by
  have hk : n ≤ 256 ^ n := Nat.le_of_lt (Nat.lt_pow_self (by decide))
  refine ⟨tableBus n n (fun q a => (read8 q (BitVec.ofNat 16 a)).1.toNat) (fun q a => (read8 q (BitVec.ofNat 16 a)).2)
    (fun q a v t => write8 (t == 1) q (BitVec.ofNat 16 a) (BitVec.ofNat 8 v)), Represents n,
    fun q _ => ⟨digitMemory q n, represents_digitMemory q n⟩, fun m q hq hm => ⟨fun a => ⟨?_, ?_⟩, fun t a v => ?_⟩⟩
  · unfold Bus.read8 tableBus
    rw [eval_tableTerm _ hk hq (show (readCall a).address < _ from a.isLt) (show 0 < 256 by decide) hm]
    simp [readCall]
  · intro i hi
    unfold Bus.afterRead8 tableBus
    rw [read_storeDigits _ _ _ _ _ _ hi, eval_tableTerm _ hk hq (show (readCall a).address < _ from a.isLt)
      (show 0 < 256 by decide) hm]
    simp [readCall]
  · intro i hi
    unfold Bus.afterWrite8 tableBus
    rw [read_storeDigits _ _ _ _ _ _ hi, eval_tableTerm _ hk hq (show (writeCall t a v).address < _ from a.isLt)
      (show (writeCall t a v).value < _ from v.isLt) hm]
    cases t <;> simp [writeCall, numberOf]

end Sys2Proof
end

