-- ==== Sys2Proof/Laws/Rows.lean ====
section
/-! SUPPORT. Case analysis over `Instr` by the rows of the opcode map that share a pattern (R114), and what `exec` is on
each such row: proofs about every instruction have some fifty cases, not 512. -/

namespace Sys2Proof

/-- Case analysis by rows: `cases i using Instr.by_rows`. -/
theorem Instr.by_rows {motive : Instr → Prop}
    (alu : ∀ op o, motive (.alu op o))
    (aluImm : ∀ op v, motive (.aluImm op v))
    (inc8 : ∀ o, motive (.inc8 o))
    (dec8 : ∀ o, motive (.dec8 o))
    (ldReg : ∀ dst r, motive (.ld8 (.reg dst) (.reg r)))
    (ldFromHl : ∀ dst, motive (.ld8 (.reg dst) .atHl))
    (ldToHl : ∀ r, motive (.ld8 .atHl (.reg r)))
    (ld8ImmReg : ∀ dst v, motive (.ld8Imm (.reg dst) v))
    (ldPair : ∀ p v, motive (.ldPair p v))
    (addHl : ∀ p, motive (.addHl p))
    (incPair : ∀ p, motive (.incPair p))
    (decPair : ∀ p, motive (.decPair p))
    (push : ∀ p, motive (.push p))
    (pop : ∀ p, motive (.pop p))
    (jpCc : ∀ cc v, motive (.jpCc cc v))
    (jrCc : ∀ cc v, motive (.jrCc cc v))
    (callCc : ∀ cc v, motive (.callCc cc v))
    (retCc : ∀ cc, motive (.retCc cc))
    (rst : ∀ t, motive (.rst t))
    (illegal : ∀ k, motive (.illegal k))
    (rot : ∀ op o, motive (.rot op o))
    (bit : ∀ b o, motive (.bit b o))
    (res : ∀ b o, motive (.res b o))
    (set : ∀ b o, motive (.set b o))
    (ldAtA16Sp : ∀ v, motive (.ldAtA16Sp v))
    (stop : ∀ v, motive (.stop v))
    (jrR8 : ∀ v, motive (.jrR8 v))
    (ldAtHlD8 : ∀ v, motive (.ldAtHlD8 v))
    (jpA16 : ∀ v, motive (.jpA16 v))
    (prefixCb : ∀ v, motive (.prefixCb v))
    (callA16 : ∀ v, motive (.callA16 v))
    (ldhAtA8A : ∀ v, motive (.ldhAtA8A v))
    (addSpR8 : ∀ v, motive (.addSpR8 v))
    (ldAtA16A : ∀ v, motive (.ldAtA16A v))
    (ldhAAtA8 : ∀ v, motive (.ldhAAtA8 v))
    (ldHlSpR8 : ∀ v, motive (.ldHlSpR8 v))
    (ldAAtA16 : ∀ v, motive (.ldAAtA16 v))
    (nop : motive (.nop))
    (ldAtBcA : motive (.ldAtBcA))
    (rlca : motive (.rlca))
    (ldAAtBc : motive (.ldAAtBc))
    (rrca : motive (.rrca))
    (ldAtDeA : motive (.ldAtDeA))
    (rla : motive (.rla))
    (ldAAtDe : motive (.ldAAtDe))
    (rra : motive (.rra))
    (ldAtHliA : motive (.ldAtHliA))
    (daa : motive (.daa))
    (ldAAtHli : motive (.ldAAtHli))
    (cpl : motive (.cpl))
    (ldAtHldA : motive (.ldAtHldA))
    (scf : motive (.scf))
    (ldAAtHld : motive (.ldAAtHld))
    (ccf : motive (.ccf))
    (halt : motive (.halt))
    (ret : motive (.ret))
    (reti : motive (.reti))
    (ldAtCA : motive (.ldAtCA))
    (jpHl : motive (.jpHl))
    (ldAAtC : motive (.ldAAtC))
    (di : motive (.di))
    (ldSpHl : motive (.ldSpHl))
    (ei : motive (.ei))
    (i : Instr) : motive i := by
  cases i with
  | ldBcD16 v => exact ldPair .bc v
  | ldBD8 v => exact ld8ImmReg .b v
  | ldAtA16Sp v => exact ldAtA16Sp v
  | ldCD8 v => exact ld8ImmReg .c v
  | stop v => exact stop v
  | ldDeD16 v => exact ldPair .de v
  | ldDD8 v => exact ld8ImmReg .d v
  | jrR8 v => exact jrR8 v
  | ldED8 v => exact ld8ImmReg .e v
  | jrNzR8 v => exact jrCc .nz v
  | ldHlD16 v => exact ldPair .hl v
  | ldHD8 v => exact ld8ImmReg .h v
  | jrZR8 v => exact jrCc .z v
  | ldLD8 v => exact ld8ImmReg .l v
  | jrNcR8 v => exact jrCc .nc v
  | ldSpD16 v => exact ldPair .sp v
  | ldAtHlD8 v => exact ldAtHlD8 v
  | jrCR8 v => exact jrCc .c v
  | ldAD8 v => exact ld8ImmReg .a v
  | jpNzA16 v => exact jpCc .nz v
  | jpA16 v => exact jpA16 v
  | callNzA16 v => exact callCc .nz v
  | addAD8 v => exact aluImm .add v
  | jpZA16 v => exact jpCc .z v
  | prefixCb v => exact prefixCb v
  | callZA16 v => exact callCc .z v
  | callA16 v => exact callA16 v
  | adcAD8 v => exact aluImm .adc v
  | jpNcA16 v => exact jpCc .nc v
  | callNcA16 v => exact callCc .nc v
  | subD8 v => exact aluImm .sub v
  | jpCA16 v => exact jpCc .c v
  | callCA16 v => exact callCc .c v
  | sbcAD8 v => exact aluImm .sbc v
  | ldhAtA8A v => exact ldhAtA8A v
  | andD8 v => exact aluImm .and v
  | addSpR8 v => exact addSpR8 v
  | ldAtA16A v => exact ldAtA16A v
  | xorD8 v => exact aluImm .xor v
  | ldhAAtA8 v => exact ldhAAtA8 v
  | orD8 v => exact aluImm .or v
  | ldHlSpR8 v => exact ldHlSpR8 v
  | ldAAtA16 v => exact ldAAtA16 v
  | cpD8 v => exact aluImm .cp v
  | nop => exact nop
  | ldAtBcA => exact ldAtBcA
  | incBc => exact incPair .bc
  | incB => exact inc8 (.reg .b)
  | decB => exact dec8 (.reg .b)
  | rlca => exact rlca
  | addHlBc => exact addHl .bc
  | ldAAtBc => exact ldAAtBc
  | decBc => exact decPair .bc
  | incC => exact inc8 (.reg .c)
  | decC => exact dec8 (.reg .c)
  | rrca => exact rrca
  | ldAtDeA => exact ldAtDeA
  | incDe => exact incPair .de
  | incD => exact inc8 (.reg .d)
  | decD => exact dec8 (.reg .d)
  | rla => exact rla
  | addHlDe => exact addHl .de
  | ldAAtDe => exact ldAAtDe
  | decDe => exact decPair .de
  | incE => exact inc8 (.reg .e)
  | decE => exact dec8 (.reg .e)
  | rra => exact rra
  | ldAtHliA => exact ldAtHliA
  | incHl => exact incPair .hl
  | incH => exact inc8 (.reg .h)
  | decH => exact dec8 (.reg .h)
  | daa => exact daa
  | addHlHl => exact addHl .hl
  | ldAAtHli => exact ldAAtHli
  | decHl => exact decPair .hl
  | incL => exact inc8 (.reg .l)
  | decL => exact dec8 (.reg .l)
  | cpl => exact cpl
  | ldAtHldA => exact ldAtHldA
  | incSp => exact incPair .sp
  | incAtHl => exact inc8 .atHl
  | decAtHl => exact dec8 .atHl
  | scf => exact scf
  | addHlSp => exact addHl .sp
  | ldAAtHld => exact ldAAtHld
  | decSp => exact decPair .sp
  | incA => exact inc8 (.reg .a)
  | decA => exact dec8 (.reg .a)
  | ccf => exact ccf
  | ldBB => exact ldReg .b .b
  | ldBC => exact ldReg .b .c
  | ldBD => exact ldReg .b .d
  | ldBE => exact ldReg .b .e
  | ldBH => exact ldReg .b .h
  | ldBL => exact ldReg .b .l
  | ldBAtHl => exact ldFromHl .b
  | ldBA => exact ldReg .b .a
  | ldCB => exact ldReg .c .b
  | ldCC => exact ldReg .c .c
  | ldCD => exact ldReg .c .d
  | ldCE => exact ldReg .c .e
  | ldCH => exact ldReg .c .h
  | ldCL => exact ldReg .c .l
  | ldCAtHl => exact ldFromHl .c
  | ldCA => exact ldReg .c .a
  | ldDB => exact ldReg .d .b
  | ldDC => exact ldReg .d .c
  | ldDD => exact ldReg .d .d
  | ldDE => exact ldReg .d .e
  | ldDH => exact ldReg .d .h
  | ldDL => exact ldReg .d .l
  | ldDAtHl => exact ldFromHl .d
  | ldDA => exact ldReg .d .a
  | ldEB => exact ldReg .e .b
  | ldEC => exact ldReg .e .c
  | ldED => exact ldReg .e .d
  | ldEE => exact ldReg .e .e
  | ldEH => exact ldReg .e .h
  | ldEL => exact ldReg .e .l
  | ldEAtHl => exact ldFromHl .e
  | ldEA => exact ldReg .e .a
  | ldHB => exact ldReg .h .b
  | ldHC => exact ldReg .h .c
  | ldHD => exact ldReg .h .d
  | ldHE => exact ldReg .h .e
  | ldHH => exact ldReg .h .h
  | ldHL => exact ldReg .h .l
  | ldHAtHl => exact ldFromHl .h
  | ldHA => exact ldReg .h .a
  | ldLB => exact ldReg .l .b
  | ldLC => exact ldReg .l .c
  | ldLD => exact ldReg .l .d
  | ldLE => exact ldReg .l .e
  | ldLH => exact ldReg .l .h
  | ldLL => exact ldReg .l .l
  | ldLAtHl => exact ldFromHl .l
  | ldLA => exact ldReg .l .a
  | ldAtHlB => exact ldToHl .b
  | ldAtHlC => exact ldToHl .c
  | ldAtHlD => exact ldToHl .d
  | ldAtHlE => exact ldToHl .e
  | ldAtHlH => exact ldToHl .h
  | ldAtHlL => exact ldToHl .l
  | halt => exact halt
  | ldAtHlA => exact ldToHl .a
  | ldAB => exact ldReg .a .b
  | ldAC => exact ldReg .a .c
  | ldAD => exact ldReg .a .d
  | ldAE => exact ldReg .a .e
  | ldAH => exact ldReg .a .h
  | ldAL => exact ldReg .a .l
  | ldAAtHl => exact ldFromHl .a
  | ldAA => exact ldReg .a .a
  | addAB => exact alu .add (.reg .b)
  | addAC => exact alu .add (.reg .c)
  | addAD => exact alu .add (.reg .d)
  | addAE => exact alu .add (.reg .e)
  | addAH => exact alu .add (.reg .h)
  | addAL => exact alu .add (.reg .l)
  | addAAtHl => exact alu .add .atHl
  | addAA => exact alu .add (.reg .a)
  | adcAB => exact alu .adc (.reg .b)
  | adcAC => exact alu .adc (.reg .c)
  | adcAD => exact alu .adc (.reg .d)
  | adcAE => exact alu .adc (.reg .e)
  | adcAH => exact alu .adc (.reg .h)
  | adcAL => exact alu .adc (.reg .l)
  | adcAAtHl => exact alu .adc .atHl
  | adcAA => exact alu .adc (.reg .a)
  | subB => exact alu .sub (.reg .b)
  | subC => exact alu .sub (.reg .c)
  | subD => exact alu .sub (.reg .d)
  | subE => exact alu .sub (.reg .e)
  | subH => exact alu .sub (.reg .h)
  | subL => exact alu .sub (.reg .l)
  | subAtHl => exact alu .sub .atHl
  | subA => exact alu .sub (.reg .a)
  | sbcAB => exact alu .sbc (.reg .b)
  | sbcAC => exact alu .sbc (.reg .c)
  | sbcAD => exact alu .sbc (.reg .d)
  | sbcAE => exact alu .sbc (.reg .e)
  | sbcAH => exact alu .sbc (.reg .h)
  | sbcAL => exact alu .sbc (.reg .l)
  | sbcAAtHl => exact alu .sbc .atHl
  | sbcAA => exact alu .sbc (.reg .a)
  | andB => exact alu .and (.reg .b)
  | andC => exact alu .and (.reg .c)
  | andD => exact alu .and (.reg .d)
  | andE => exact alu .and (.reg .e)
  | andH => exact alu .and (.reg .h)
  | andL => exact alu .and (.reg .l)
  | andAtHl => exact alu .and .atHl
  | andA => exact alu .and (.reg .a)
  | xorB => exact alu .xor (.reg .b)
  | xorC => exact alu .xor (.reg .c)
  | xorD => exact alu .xor (.reg .d)
  | xorE => exact alu .xor (.reg .e)
  | xorH => exact alu .xor (.reg .h)
  | xorL => exact alu .xor (.reg .l)
  | xorAtHl => exact alu .xor .atHl
  | xorA => exact alu .xor (.reg .a)
  | orB => exact alu .or (.reg .b)
  | orC => exact alu .or (.reg .c)
  | orD => exact alu .or (.reg .d)
  | orE => exact alu .or (.reg .e)
  | orH => exact alu .or (.reg .h)
  | orL => exact alu .or (.reg .l)
  | orAtHl => exact alu .or .atHl
  | orA => exact alu .or (.reg .a)
  | cpB => exact alu .cp (.reg .b)
  | cpC => exact alu .cp (.reg .c)
  | cpD => exact alu .cp (.reg .d)
  | cpE => exact alu .cp (.reg .e)
  | cpH => exact alu .cp (.reg .h)
  | cpL => exact alu .cp (.reg .l)
  | cpAtHl => exact alu .cp .atHl
  | cpA => exact alu .cp (.reg .a)
  | retNz => exact retCc .nz
  | popBc => exact pop .bc
  | pushBc => exact push .bc
  | rst00 => exact rst .v00
  | retZ => exact retCc .z
  | ret => exact ret
  | rst08 => exact rst .v08
  | retNc => exact retCc .nc
  | popDe => exact pop .de
  | illegalD3 => exact illegal .d3
  | pushDe => exact push .de
  | rst10 => exact rst .v10
  | retC => exact retCc .c
  | reti => exact reti
  | illegalDB => exact illegal .db
  | illegalDD => exact illegal .dd
  | rst18 => exact rst .v18
  | popHl => exact pop .hl
  | ldAtCA => exact ldAtCA
  | illegalE3 => exact illegal .e3
  | illegalE4 => exact illegal .e4
  | pushHl => exact push .hl
  | rst20 => exact rst .v20
  | jpHl => exact jpHl
  | illegalEB => exact illegal .eb
  | illegalEC => exact illegal .ec
  | illegalED => exact illegal .ed
  | rst28 => exact rst .v28
  | popAf => exact pop .af
  | ldAAtC => exact ldAAtC
  | di => exact di
  | illegalF4 => exact illegal .f4
  | pushAf => exact push .af
  | rst30 => exact rst .v30
  | ldSpHl => exact ldSpHl
  | ei => exact ei
  | illegalFC => exact illegal .fc
  | illegalFD => exact illegal .fd
  | rst38 => exact rst .v38
  | rlcB => exact rot .rlc (.reg .b)
  | rlcC => exact rot .rlc (.reg .c)
  | rlcD => exact rot .rlc (.reg .d)
  | rlcE => exact rot .rlc (.reg .e)
  | rlcH => exact rot .rlc (.reg .h)
  | rlcL => exact rot .rlc (.reg .l)
  | rlcAtHl => exact rot .rlc .atHl
  | rlcA => exact rot .rlc (.reg .a)
  | rrcB => exact rot .rrc (.reg .b)
  | rrcC => exact rot .rrc (.reg .c)
  | rrcD => exact rot .rrc (.reg .d)
  | rrcE => exact rot .rrc (.reg .e)
  | rrcH => exact rot .rrc (.reg .h)
  | rrcL => exact rot .rrc (.reg .l)
  | rrcAtHl => exact rot .rrc .atHl
  | rrcA => exact rot .rrc (.reg .a)
  | rlB => exact rot .rl (.reg .b)
  | rlC => exact rot .rl (.reg .c)
  | rlD => exact rot .rl (.reg .d)
  | rlE => exact rot .rl (.reg .e)
  | rlH => exact rot .rl (.reg .h)
  | rlL => exact rot .rl (.reg .l)
  | rlAtHl => exact rot .rl .atHl
  | rlA => exact rot .rl (.reg .a)
  | rrB => exact rot .rr (.reg .b)
  | rrC => exact rot .rr (.reg .c)
  | rrD => exact rot .rr (.reg .d)
  | rrE => exact rot .rr (.reg .e)
  | rrH => exact rot .rr (.reg .h)
  | rrL => exact rot .rr (.reg .l)
  | rrAtHl => exact rot .rr .atHl
  | rrA => exact rot .rr (.reg .a)
  | slaB => exact rot .sla (.reg .b)
  | slaC => exact rot .sla (.reg .c)
  | slaD => exact rot .sla (.reg .d)
  | slaE => exact rot .sla (.reg .e)
  | slaH => exact rot .sla (.reg .h)
  | slaL => exact rot .sla (.reg .l)
  | slaAtHl => exact rot .sla .atHl
  | slaA => exact rot .sla (.reg .a)
  | sraB => exact rot .sra (.reg .b)
  | sraC => exact rot .sra (.reg .c)
  | sraD => exact rot .sra (.reg .d)
  | sraE => exact rot .sra (.reg .e)
  | sraH => exact rot .sra (.reg .h)
  | sraL => exact rot .sra (.reg .l)
  | sraAtHl => exact rot .sra .atHl
  | sraA => exact rot .sra (.reg .a)
  | swapB => exact rot .swap (.reg .b)
  | swapC => exact rot .swap (.reg .c)
  | swapD => exact rot .swap (.reg .d)
  | swapE => exact rot .swap (.reg .e)
  | swapH => exact rot .swap (.reg .h)
  | swapL => exact rot .swap (.reg .l)
  | swapAtHl => exact rot .swap .atHl
  | swapA => exact rot .swap (.reg .a)
  | srlB => exact rot .srl (.reg .b)
  | srlC => exact rot .srl (.reg .c)
  | srlD => exact rot .srl (.reg .d)
  | srlE => exact rot .srl (.reg .e)
  | srlH => exact rot .srl (.reg .h)
  | srlL => exact rot .srl (.reg .l)
  | srlAtHl => exact rot .srl .atHl
  | srlA => exact rot .srl (.reg .a)
  | bit0B => exact bit .b0 (.reg .b)
  | bit0C => exact bit .b0 (.reg .c)
  | bit0D => exact bit .b0 (.reg .d)
  | bit0E => exact bit .b0 (.reg .e)
  | bit0H => exact bit .b0 (.reg .h)
  | bit0L => exact bit .b0 (.reg .l)
  | bit0AtHl => exact bit .b0 .atHl
  | bit0A => exact bit .b0 (.reg .a)
  | bit1B => exact bit .b1 (.reg .b)
  | bit1C => exact bit .b1 (.reg .c)
  | bit1D => exact bit .b1 (.reg .d)
  | bit1E => exact bit .b1 (.reg .e)
  | bit1H => exact bit .b1 (.reg .h)
  | bit1L => exact bit .b1 (.reg .l)
  | bit1AtHl => exact bit .b1 .atHl
  | bit1A => exact bit .b1 (.reg .a)
  | bit2B => exact bit .b2 (.reg .b)
  | bit2C => exact bit .b2 (.reg .c)
  | bit2D => exact bit .b2 (.reg .d)
  | bit2E => exact bit .b2 (.reg .e)
  | bit2H => exact bit .b2 (.reg .h)
  | bit2L => exact bit .b2 (.reg .l)
  | bit2AtHl => exact bit .b2 .atHl
  | bit2A => exact bit .b2 (.reg .a)
  | bit3B => exact bit .b3 (.reg .b)
  | bit3C => exact bit .b3 (.reg .c)
  | bit3D => exact bit .b3 (.reg .d)
  | bit3E => exact bit .b3 (.reg .e)
  | bit3H => exact bit .b3 (.reg .h)
  | bit3L => exact bit .b3 (.reg .l)
  | bit3AtHl => exact bit .b3 .atHl
  | bit3A => exact bit .b3 (.reg .a)
  | bit4B => exact bit .b4 (.reg .b)
  | bit4C => exact bit .b4 (.reg .c)
  | bit4D => exact bit .b4 (.reg .d)
  | bit4E => exact bit .b4 (.reg .e)
  | bit4H => exact bit .b4 (.reg .h)
  | bit4L => exact bit .b4 (.reg .l)
  | bit4AtHl => exact bit .b4 .atHl
  | bit4A => exact bit .b4 (.reg .a)
  | bit5B => exact bit .b5 (.reg .b)
  | bit5C => exact bit .b5 (.reg .c)
  | bit5D => exact bit .b5 (.reg .d)
  | bit5E => exact bit .b5 (.reg .e)
  | bit5H => exact bit .b5 (.reg .h)
  | bit5L => exact bit .b5 (.reg .l)
  | bit5AtHl => exact bit .b5 .atHl
  | bit5A => exact bit .b5 (.reg .a)
  | bit6B => exact bit .b6 (.reg .b)
  | bit6C => exact bit .b6 (.reg .c)
  | bit6D => exact bit .b6 (.reg .d)
  | bit6E => exact bit .b6 (.reg .e)
  | bit6H => exact bit .b6 (.reg .h)
  | bit6L => exact bit .b6 (.reg .l)
  | bit6AtHl => exact bit .b6 .atHl
  | bit6A => exact bit .b6 (.reg .a)
  | bit7B => exact bit .b7 (.reg .b)
  | bit7C => exact bit .b7 (.reg .c)
  | bit7D => exact bit .b7 (.reg .d)
  | bit7E => exact bit .b7 (.reg .e)
  | bit7H => exact bit .b7 (.reg .h)
  | bit7L => exact bit .b7 (.reg .l)
  | bit7AtHl => exact bit .b7 .atHl
  | bit7A => exact bit .b7 (.reg .a)
  | res0B => exact res .b0 (.reg .b)
  | res0C => exact res .b0 (.reg .c)
  | res0D => exact res .b0 (.reg .d)
  | res0E => exact res .b0 (.reg .e)
  | res0H => exact res .b0 (.reg .h)
  | res0L => exact res .b0 (.reg .l)
  | res0AtHl => exact res .b0 .atHl
  | res0A => exact res .b0 (.reg .a)
  | res1B => exact res .b1 (.reg .b)
  | res1C => exact res .b1 (.reg .c)
  | res1D => exact res .b1 (.reg .d)
  | res1E => exact res .b1 (.reg .e)
  | res1H => exact res .b1 (.reg .h)
  | res1L => exact res .b1 (.reg .l)
  | res1AtHl => exact res .b1 .atHl
  | res1A => exact res .b1 (.reg .a)
  | res2B => exact res .b2 (.reg .b)
  | res2C => exact res .b2 (.reg .c)
  | res2D => exact res .b2 (.reg .d)
  | res2E => exact res .b2 (.reg .e)
  | res2H => exact res .b2 (.reg .h)
  | res2L => exact res .b2 (.reg .l)
  | res2AtHl => exact res .b2 .atHl
  | res2A => exact res .b2 (.reg .a)
  | res3B => exact res .b3 (.reg .b)
  | res3C => exact res .b3 (.reg .c)
  | res3D => exact res .b3 (.reg .d)
  | res3E => exact res .b3 (.reg .e)
  | res3H => exact res .b3 (.reg .h)
  | res3L => exact res .b3 (.reg .l)
  | res3AtHl => exact res .b3 .atHl
  | res3A => exact res .b3 (.reg .a)
  | res4B => exact res .b4 (.reg .b)
  | res4C => exact res .b4 (.reg .c)
  | res4D => exact res .b4 (.reg .d)
  | res4E => exact res .b4 (.reg .e)
  | res4H => exact res .b4 (.reg .h)
  | res4L => exact res .b4 (.reg .l)
  | res4AtHl => exact res .b4 .atHl
  | res4A => exact res .b4 (.reg .a)
  | res5B => exact res .b5 (.reg .b)
  | res5C => exact res .b5 (.reg .c)
  | res5D => exact res .b5 (.reg .d)
  | res5E => exact res .b5 (.reg .e)
  | res5H => exact res .b5 (.reg .h)
  | res5L => exact res .b5 (.reg .l)
  | res5AtHl => exact res .b5 .atHl
  | res5A => exact res .b5 (.reg .a)
  | res6B => exact res .b6 (.reg .b)
  | res6C => exact res .b6 (.reg .c)
  | res6D => exact res .b6 (.reg .d)
  | res6E => exact res .b6 (.reg .e)
  | res6H => exact res .b6 (.reg .h)
  | res6L => exact res .b6 (.reg .l)
  | res6AtHl => exact res .b6 .atHl
  | res6A => exact res .b6 (.reg .a)
  | res7B => exact res .b7 (.reg .b)
  | res7C => exact res .b7 (.reg .c)
  | res7D => exact res .b7 (.reg .d)
  | res7E => exact res .b7 (.reg .e)
  | res7H => exact res .b7 (.reg .h)
  | res7L => exact res .b7 (.reg .l)
  | res7AtHl => exact res .b7 .atHl
  | res7A => exact res .b7 (.reg .a)
  | set0B => exact set .b0 (.reg .b)
  | set0C => exact set .b0 (.reg .c)
  | set0D => exact set .b0 (.reg .d)
  | set0E => exact set .b0 (.reg .e)
  | set0H => exact set .b0 (.reg .h)
  | set0L => exact set .b0 (.reg .l)
  | set0AtHl => exact set .b0 .atHl
  | set0A => exact set .b0 (.reg .a)
  | set1B => exact set .b1 (.reg .b)
  | set1C => exact set .b1 (.reg .c)
  | set1D => exact set .b1 (.reg .d)
  | set1E => exact set .b1 (.reg .e)
  | set1H => exact set .b1 (.reg .h)
  | set1L => exact set .b1 (.reg .l)
  | set1AtHl => exact set .b1 .atHl
  | set1A => exact set .b1 (.reg .a)
  | set2B => exact set .b2 (.reg .b)
  | set2C => exact set .b2 (.reg .c)
  | set2D => exact set .b2 (.reg .d)
  | set2E => exact set .b2 (.reg .e)
  | set2H => exact set .b2 (.reg .h)
  | set2L => exact set .b2 (.reg .l)
  | set2AtHl => exact set .b2 .atHl
  | set2A => exact set .b2 (.reg .a)
  | set3B => exact set .b3 (.reg .b)
  | set3C => exact set .b3 (.reg .c)
  | set3D => exact set .b3 (.reg .d)
  | set3E => exact set .b3 (.reg .e)
  | set3H => exact set .b3 (.reg .h)
  | set3L => exact set .b3 (.reg .l)
  | set3AtHl => exact set .b3 .atHl
  | set3A => exact set .b3 (.reg .a)
  | set4B => exact set .b4 (.reg .b)
  | set4C => exact set .b4 (.reg .c)
  | set4D => exact set .b4 (.reg .d)
  | set4E => exact set .b4 (.reg .e)
  | set4H => exact set .b4 (.reg .h)
  | set4L => exact set .b4 (.reg .l)
  | set4AtHl => exact set .b4 .atHl
  | set4A => exact set .b4 (.reg .a)
  | set5B => exact set .b5 (.reg .b)
  | set5C => exact set .b5 (.reg .c)
  | set5D => exact set .b5 (.reg .d)
  | set5E => exact set .b5 (.reg .e)
  | set5H => exact set .b5 (.reg .h)
  | set5L => exact set .b5 (.reg .l)
  | set5AtHl => exact set .b5 .atHl
  | set5A => exact set .b5 (.reg .a)
  | set6B => exact set .b6 (.reg .b)
  | set6C => exact set .b6 (.reg .c)
  | set6D => exact set .b6 (.reg .d)
  | set6E => exact set .b6 (.reg .e)
  | set6H => exact set .b6 (.reg .h)
  | set6L => exact set .b6 (.reg .l)
  | set6AtHl => exact set .b6 .atHl
  | set6A => exact set .b6 (.reg .a)
  | set7B => exact set .b7 (.reg .b)
  | set7C => exact set .b7 (.reg .c)
  | set7D => exact set .b7 (.reg .d)
  | set7E => exact set .b7 (.reg .e)
  | set7H => exact set .b7 (.reg .h)
  | set7L => exact set .b7 (.reg .l)
  | set7AtHl => exact set .b7 .atHl
  | set7A => exact set .b7 (.reg .a)

namespace Machine

@[simp] theorem exec_alu (op : AluOp) (o : Opnd8) (s : State) : exec (.alu op o) s = aluOperand op o s := by
  cases op <;> rcases o with r | _ <;> first | rfl | (cases r <;> rfl)

@[simp] theorem exec_aluImm (op : AluOp) (v : Byte) (s : State) : exec (.aluImm op v) s = aluImmediate op v s := by
  cases op <;> rfl

@[simp] theorem exec_inc8 (o : Opnd8) (s : State) : exec (.inc8 o) s = incOperand o s := by
  rcases o with r | _ <;> first | rfl | (cases r <;> rfl)

@[simp] theorem exec_dec8 (o : Opnd8) (s : State) : exec (.dec8 o) s = decOperand o s := by
  rcases o with r | _ <;> first | rfl | (cases r <;> rfl)

@[simp] theorem exec_ld8_reg_reg (dst r : Reg8) (s : State) : exec (.ld8 (.reg dst) (.reg r)) s = copyReg dst r s := by
  cases dst <;> cases r <;> rfl

@[simp] theorem exec_ld8_reg_hl (dst : Reg8) (s : State) : exec (.ld8 (.reg dst) .atHl) s = loadFromHl dst s := by
  cases dst <;> rfl

@[simp] theorem exec_ld8_hl_reg (r : Reg8) (s : State) : exec (.ld8 .atHl (.reg r)) s = storeAtHl r s := by
  cases r <;> rfl

@[simp] theorem exec_ld8Imm_reg (dst : Reg8) (v : Byte) (s : State) : exec (.ld8Imm (.reg dst) v) s = loadImmediate dst v s := by
  cases dst <;> rfl

@[simp] theorem exec_ldPair (p : Pair1) (v : Word) (s : State) : exec (.ldPair p v) s = done 3 (s.setPair1 p v) := by
  cases p <;> rfl

@[simp] theorem exec_addHl (p : Pair1) (s : State) : exec (.addHl p) s = addHlPair p s := by
  cases p <;> rfl

@[simp] theorem exec_incPair (p : Pair1) (s : State) : exec (.incPair p) s = incPair p s := by
  cases p <;> rfl

@[simp] theorem exec_decPair (p : Pair1) (s : State) : exec (.decPair p) s = decPair p s := by
  cases p <;> rfl

@[simp] theorem exec_push (p : Pair2) (s : State) : exec (.push p) s = pushPair p s := by
  cases p <;> rfl

@[simp] theorem exec_pop (p : Pair2) (s : State) : exec (.pop p) s = popPair p s := by
  cases p <;> rfl

@[simp] theorem exec_jpCc (cc : Cond) (v : Word) (s : State) : exec (.jpCc cc v) s = jumpIf cc v s := by
  cases cc <;> rfl

@[simp] theorem exec_jrCc (cc : Cond) (v : Byte) (s : State) : exec (.jrCc cc v) s = jumpRelativeIf cc v s := by
  cases cc <;> rfl

@[simp] theorem exec_callCc (cc : Cond) (v : Word) (s : State) : exec (.callCc cc v) s = callIf cc v s := by
  cases cc <;> rfl

@[simp] theorem exec_retCc (cc : Cond) (s : State) : exec (.retCc cc) s = returnIf cc s := by
  cases cc <;> rfl

@[simp] theorem exec_rst (t : RstVec) (s : State) : exec (.rst t) s = restart t s := by
  cases t <;> rfl

@[simp] theorem exec_illegal (k : IllegalSlot) (s : State) : exec (.illegal k) s = illegalOpcode (illegalByte k) s := by
  cases k <;> rfl

@[simp] theorem exec_rot (op : RotOp) (o : Opnd8) (s : State) : exec (.rot op o) s = rotateOperand op o s := by
  cases op <;> rcases o with r | _ <;> first | rfl | (cases r <;> rfl)

@[simp] theorem exec_bit (b : BitNo) (o : Opnd8) (s : State) : exec (.bit b o) s = bitOperand b o s := by
  cases b <;> rcases o with r | _ <;> first | rfl | (cases r <;> rfl)

@[simp] theorem exec_res (b : BitNo) (o : Opnd8) (s : State) : exec (.res b o) s = resOperand b o s := by
  cases b <;> rcases o with r | _ <;> first | rfl | (cases r <;> rfl)

@[simp] theorem exec_set (b : BitNo) (o : Opnd8) (s : State) : exec (.set b o) s = setOperand b o s := by
  cases b <;> rcases o with r | _ <;> first | rfl | (cases r <;> rfl)

/-- The prefix runs the row of the extended table (R345). -/
theorem exec_prefixCb (op2 : Byte) (s : State) : exec (.prefixCb op2) s = exec (cbEntry op2) s := by
  unfold cbEntry
  show execPrefixCb op2 s = _
  unfold execPrefixCb
  rcases field op2 6 2 with _ | _ | _ | _ <;> simp

end Machine

end Sys2Proof
end

