-- ==== Sys2Proof/Laws/State.lean ====
section
/-! SUPPORT. One lemma per field per update of `State`, true by `rfl`: no later proof unfolds a record update. -/

namespace Sys2Proof.Machine

/-! ### `setAf` -/

@[simp] theorem State.setAf_a (s : State) (v : Word) : (s.setAf v).a = highByte v := rfl
@[simp] theorem State.setAf_f (s : State) (v : Word) : (s.setAf v).f = Flags.ofByte (lowByte v) := rfl
@[simp] theorem State.setAf_b (s : State) (v : Word) : (s.setAf v).b = s.b := rfl
@[simp] theorem State.setAf_c (s : State) (v : Word) : (s.setAf v).c = s.c := rfl
@[simp] theorem State.setAf_d (s : State) (v : Word) : (s.setAf v).d = s.d := rfl
@[simp] theorem State.setAf_e (s : State) (v : Word) : (s.setAf v).e = s.e := rfl
@[simp] theorem State.setAf_h (s : State) (v : Word) : (s.setAf v).h = s.h := rfl
@[simp] theorem State.setAf_l (s : State) (v : Word) : (s.setAf v).l = s.l := rfl
@[simp] theorem State.setAf_sp (s : State) (v : Word) : (s.setAf v).sp = s.sp := rfl
@[simp] theorem State.setAf_pc (s : State) (v : Word) : (s.setAf v).pc = s.pc := rfl
@[simp] theorem State.setAf_ime (s : State) (v : Word) : (s.setAf v).ime = s.ime := rfl
@[simp] theorem State.setAf_eiPending (s : State) (v : Word) : (s.setAf v).eiPending = s.eiPending := rfl
@[simp] theorem State.setAf_halted (s : State) (v : Word) : (s.setAf v).halted = s.halted := rfl
@[simp] theorem State.setAf_stopped (s : State) (v : Word) : (s.setAf v).stopped = s.stopped := rfl
@[simp] theorem State.setAf_haltBugArmed (s : State) (v : Word) : (s.setAf v).haltBugArmed = s.haltBugArmed := rfl
@[simp] theorem State.setAf_divAcc (s : State) (v : Word) : (s.setAf v).divAcc = s.divAcc := rfl
@[simp] theorem State.setAf_timaAcc (s : State) (v : Word) : (s.setAf v).timaAcc = s.timaAcc := rfl
@[simp] theorem State.setAf_fault (s : State) (v : Word) : (s.setAf v).fault = s.fault := rfl
@[simp] theorem State.setAf_mem (s : State) (v : Word) : (s.setAf v).mem = s.mem := rfl
@[simp] theorem State.setAf_config (s : State) (v : Word) : (s.setAf v).config = s.config := rfl
@[simp] theorem State.setAf_trace (s : State) (v : Word) : (s.setAf v).trace = s.trace := rfl
@[simp] theorem State.setAf_opAddr (s : State) (v : Word) : (s.setAf v).opAddr = s.opAddr := rfl
@[simp] theorem State.setAf_outcome (s : State) (v : Word) : (s.setAf v).outcome = s.outcome := rfl

/-! ### `setBc` -/

@[simp] theorem State.setBc_a (s : State) (v : Word) : (s.setBc v).a = s.a := rfl
@[simp] theorem State.setBc_f (s : State) (v : Word) : (s.setBc v).f = s.f := rfl
@[simp] theorem State.setBc_b (s : State) (v : Word) : (s.setBc v).b = highByte v := rfl
@[simp] theorem State.setBc_c (s : State) (v : Word) : (s.setBc v).c = lowByte v := rfl
@[simp] theorem State.setBc_d (s : State) (v : Word) : (s.setBc v).d = s.d := rfl
@[simp] theorem State.setBc_e (s : State) (v : Word) : (s.setBc v).e = s.e := rfl
@[simp] theorem State.setBc_h (s : State) (v : Word) : (s.setBc v).h = s.h := rfl
@[simp] theorem State.setBc_l (s : State) (v : Word) : (s.setBc v).l = s.l := rfl
@[simp] theorem State.setBc_sp (s : State) (v : Word) : (s.setBc v).sp = s.sp := rfl
@[simp] theorem State.setBc_pc (s : State) (v : Word) : (s.setBc v).pc = s.pc := rfl
@[simp] theorem State.setBc_ime (s : State) (v : Word) : (s.setBc v).ime = s.ime := rfl
@[simp] theorem State.setBc_eiPending (s : State) (v : Word) : (s.setBc v).eiPending = s.eiPending := rfl
@[simp] theorem State.setBc_halted (s : State) (v : Word) : (s.setBc v).halted = s.halted := rfl
@[simp] theorem State.setBc_stopped (s : State) (v : Word) : (s.setBc v).stopped = s.stopped := rfl
@[simp] theorem State.setBc_haltBugArmed (s : State) (v : Word) : (s.setBc v).haltBugArmed = s.haltBugArmed := rfl
@[simp] theorem State.setBc_divAcc (s : State) (v : Word) : (s.setBc v).divAcc = s.divAcc := rfl
@[simp] theorem State.setBc_timaAcc (s : State) (v : Word) : (s.setBc v).timaAcc = s.timaAcc := rfl
@[simp] theorem State.setBc_fault (s : State) (v : Word) : (s.setBc v).fault = s.fault := rfl
@[simp] theorem State.setBc_mem (s : State) (v : Word) : (s.setBc v).mem = s.mem := rfl
@[simp] theorem State.setBc_config (s : State) (v : Word) : (s.setBc v).config = s.config := rfl
@[simp] theorem State.setBc_trace (s : State) (v : Word) : (s.setBc v).trace = s.trace := rfl
@[simp] theorem State.setBc_opAddr (s : State) (v : Word) : (s.setBc v).opAddr = s.opAddr := rfl
@[simp] theorem State.setBc_outcome (s : State) (v : Word) : (s.setBc v).outcome = s.outcome := rfl

/-! ### `setDe` -/

@[simp] theorem State.setDe_a (s : State) (v : Word) : (s.setDe v).a = s.a := rfl
@[simp] theorem State.setDe_f (s : State) (v : Word) : (s.setDe v).f = s.f := rfl
@[simp] theorem State.setDe_b (s : State) (v : Word) : (s.setDe v).b = s.b := rfl
@[simp] theorem State.setDe_c (s : State) (v : Word) : (s.setDe v).c = s.c := rfl
@[simp] theorem State.setDe_d (s : State) (v : Word) : (s.setDe v).d = highByte v := rfl
@[simp] theorem State.setDe_e (s : State) (v : Word) : (s.setDe v).e = lowByte v := rfl
@[simp] theorem State.setDe_h (s : State) (v : Word) : (s.setDe v).h = s.h := rfl
@[simp] theorem State.setDe_l (s : State) (v : Word) : (s.setDe v).l = s.l := rfl
@[simp] theorem State.setDe_sp (s : State) (v : Word) : (s.setDe v).sp = s.sp := rfl
@[simp] theorem State.setDe_pc (s : State) (v : Word) : (s.setDe v).pc = s.pc := rfl
@[simp] theorem State.setDe_ime (s : State) (v : Word) : (s.setDe v).ime = s.ime := rfl
@[simp] theorem State.setDe_eiPending (s : State) (v : Word) : (s.setDe v).eiPending = s.eiPending := rfl
@[simp] theorem State.setDe_halted (s : State) (v : Word) : (s.setDe v).halted = s.halted := rfl
@[simp] theorem State.setDe_stopped (s : State) (v : Word) : (s.setDe v).stopped = s.stopped := rfl
@[simp] theorem State.setDe_haltBugArmed (s : State) (v : Word) : (s.setDe v).haltBugArmed = s.haltBugArmed := rfl
@[simp] theorem State.setDe_divAcc (s : State) (v : Word) : (s.setDe v).divAcc = s.divAcc := rfl
@[simp] theorem State.setDe_timaAcc (s : State) (v : Word) : (s.setDe v).timaAcc = s.timaAcc := rfl
@[simp] theorem State.setDe_fault (s : State) (v : Word) : (s.setDe v).fault = s.fault := rfl
@[simp] theorem State.setDe_mem (s : State) (v : Word) : (s.setDe v).mem = s.mem := rfl
@[simp] theorem State.setDe_config (s : State) (v : Word) : (s.setDe v).config = s.config := rfl
@[simp] theorem State.setDe_trace (s : State) (v : Word) : (s.setDe v).trace = s.trace := rfl
@[simp] theorem State.setDe_opAddr (s : State) (v : Word) : (s.setDe v).opAddr = s.opAddr := rfl
@[simp] theorem State.setDe_outcome (s : State) (v : Word) : (s.setDe v).outcome = s.outcome := rfl

/-! ### `setHl` -/

@[simp] theorem State.setHl_a (s : State) (v : Word) : (s.setHl v).a = s.a := rfl
@[simp] theorem State.setHl_f (s : State) (v : Word) : (s.setHl v).f = s.f := rfl
@[simp] theorem State.setHl_b (s : State) (v : Word) : (s.setHl v).b = s.b := rfl
@[simp] theorem State.setHl_c (s : State) (v : Word) : (s.setHl v).c = s.c := rfl
@[simp] theorem State.setHl_d (s : State) (v : Word) : (s.setHl v).d = s.d := rfl
@[simp] theorem State.setHl_e (s : State) (v : Word) : (s.setHl v).e = s.e := rfl
@[simp] theorem State.setHl_h (s : State) (v : Word) : (s.setHl v).h = highByte v := rfl
@[simp] theorem State.setHl_l (s : State) (v : Word) : (s.setHl v).l = lowByte v := rfl
@[simp] theorem State.setHl_sp (s : State) (v : Word) : (s.setHl v).sp = s.sp := rfl
@[simp] theorem State.setHl_pc (s : State) (v : Word) : (s.setHl v).pc = s.pc := rfl
@[simp] theorem State.setHl_ime (s : State) (v : Word) : (s.setHl v).ime = s.ime := rfl
@[simp] theorem State.setHl_eiPending (s : State) (v : Word) : (s.setHl v).eiPending = s.eiPending := rfl
@[simp] theorem State.setHl_halted (s : State) (v : Word) : (s.setHl v).halted = s.halted := rfl
@[simp] theorem State.setHl_stopped (s : State) (v : Word) : (s.setHl v).stopped = s.stopped := rfl
@[simp] theorem State.setHl_haltBugArmed (s : State) (v : Word) : (s.setHl v).haltBugArmed = s.haltBugArmed := rfl
@[simp] theorem State.setHl_divAcc (s : State) (v : Word) : (s.setHl v).divAcc = s.divAcc := rfl
@[simp] theorem State.setHl_timaAcc (s : State) (v : Word) : (s.setHl v).timaAcc = s.timaAcc := rfl
@[simp] theorem State.setHl_fault (s : State) (v : Word) : (s.setHl v).fault = s.fault := rfl
@[simp] theorem State.setHl_mem (s : State) (v : Word) : (s.setHl v).mem = s.mem := rfl
@[simp] theorem State.setHl_config (s : State) (v : Word) : (s.setHl v).config = s.config := rfl
@[simp] theorem State.setHl_trace (s : State) (v : Word) : (s.setHl v).trace = s.trace := rfl
@[simp] theorem State.setHl_opAddr (s : State) (v : Word) : (s.setHl v).opAddr = s.opAddr := rfl
@[simp] theorem State.setHl_outcome (s : State) (v : Word) : (s.setHl v).outcome = s.outcome := rfl

/-! ### `afterRead` -/

@[simp] theorem State.afterRead_a (s : State) (x : Word) : (s.afterRead x).a = s.a := rfl
@[simp] theorem State.afterRead_f (s : State) (x : Word) : (s.afterRead x).f = s.f := rfl
@[simp] theorem State.afterRead_b (s : State) (x : Word) : (s.afterRead x).b = s.b := rfl
@[simp] theorem State.afterRead_c (s : State) (x : Word) : (s.afterRead x).c = s.c := rfl
@[simp] theorem State.afterRead_d (s : State) (x : Word) : (s.afterRead x).d = s.d := rfl
@[simp] theorem State.afterRead_e (s : State) (x : Word) : (s.afterRead x).e = s.e := rfl
@[simp] theorem State.afterRead_h (s : State) (x : Word) : (s.afterRead x).h = s.h := rfl
@[simp] theorem State.afterRead_l (s : State) (x : Word) : (s.afterRead x).l = s.l := rfl
@[simp] theorem State.afterRead_sp (s : State) (x : Word) : (s.afterRead x).sp = s.sp := rfl
@[simp] theorem State.afterRead_pc (s : State) (x : Word) : (s.afterRead x).pc = s.pc := rfl
@[simp] theorem State.afterRead_ime (s : State) (x : Word) : (s.afterRead x).ime = s.ime := rfl
@[simp] theorem State.afterRead_eiPending (s : State) (x : Word) : (s.afterRead x).eiPending = s.eiPending := rfl
@[simp] theorem State.afterRead_halted (s : State) (x : Word) : (s.afterRead x).halted = s.halted := rfl
@[simp] theorem State.afterRead_stopped (s : State) (x : Word) : (s.afterRead x).stopped = s.stopped := rfl
@[simp] theorem State.afterRead_haltBugArmed (s : State) (x : Word) : (s.afterRead x).haltBugArmed = s.haltBugArmed := rfl
@[simp] theorem State.afterRead_divAcc (s : State) (x : Word) : (s.afterRead x).divAcc = s.divAcc := rfl
@[simp] theorem State.afterRead_timaAcc (s : State) (x : Word) : (s.afterRead x).timaAcc = s.timaAcc := rfl
@[simp] theorem State.afterRead_fault (s : State) (x : Word) : (s.afterRead x).fault = s.fault := rfl
@[simp] theorem State.afterRead_mem (s : State) (x : Word) : (s.afterRead x).mem = s.config.bus.afterRead8 s.mem x := rfl
@[simp] theorem State.afterRead_config (s : State) (x : Word) : (s.afterRead x).config = s.config := rfl
@[simp] theorem State.afterRead_trace (s : State) (x : Word) : (s.afterRead x).trace = s.trace ++ [.read x (s.peek x)] := rfl
@[simp] theorem State.afterRead_opAddr (s : State) (x : Word) : (s.afterRead x).opAddr = s.opAddr := rfl
@[simp] theorem State.afterRead_outcome (s : State) (x : Word) : (s.afterRead x).outcome = s.outcome := rfl

/-! ### `writeAs` -/

@[simp] theorem State.writeAs_a (s : State) (t : Bool) (x : Word) (v : Byte) : (s.writeAs t x v).a = s.a := rfl
@[simp] theorem State.writeAs_f (s : State) (t : Bool) (x : Word) (v : Byte) : (s.writeAs t x v).f = s.f := rfl
@[simp] theorem State.writeAs_b (s : State) (t : Bool) (x : Word) (v : Byte) : (s.writeAs t x v).b = s.b := rfl
@[simp] theorem State.writeAs_c (s : State) (t : Bool) (x : Word) (v : Byte) : (s.writeAs t x v).c = s.c := rfl
@[simp] theorem State.writeAs_d (s : State) (t : Bool) (x : Word) (v : Byte) : (s.writeAs t x v).d = s.d := rfl
@[simp] theorem State.writeAs_e (s : State) (t : Bool) (x : Word) (v : Byte) : (s.writeAs t x v).e = s.e := rfl
@[simp] theorem State.writeAs_h (s : State) (t : Bool) (x : Word) (v : Byte) : (s.writeAs t x v).h = s.h := rfl
@[simp] theorem State.writeAs_l (s : State) (t : Bool) (x : Word) (v : Byte) : (s.writeAs t x v).l = s.l := rfl
@[simp] theorem State.writeAs_sp (s : State) (t : Bool) (x : Word) (v : Byte) : (s.writeAs t x v).sp = s.sp := rfl
@[simp] theorem State.writeAs_pc (s : State) (t : Bool) (x : Word) (v : Byte) : (s.writeAs t x v).pc = s.pc := rfl
@[simp] theorem State.writeAs_ime (s : State) (t : Bool) (x : Word) (v : Byte) : (s.writeAs t x v).ime = s.ime := rfl
@[simp] theorem State.writeAs_eiPending (s : State) (t : Bool) (x : Word) (v : Byte) : (s.writeAs t x v).eiPending = s.eiPending := rfl
@[simp] theorem State.writeAs_halted (s : State) (t : Bool) (x : Word) (v : Byte) : (s.writeAs t x v).halted = s.halted := rfl
@[simp] theorem State.writeAs_stopped (s : State) (t : Bool) (x : Word) (v : Byte) : (s.writeAs t x v).stopped = s.stopped := rfl
@[simp] theorem State.writeAs_haltBugArmed (s : State) (t : Bool) (x : Word) (v : Byte) : (s.writeAs t x v).haltBugArmed = s.haltBugArmed := rfl
@[simp] theorem State.writeAs_divAcc (s : State) (t : Bool) (x : Word) (v : Byte) : (s.writeAs t x v).divAcc = s.divAcc := rfl
@[simp] theorem State.writeAs_timaAcc (s : State) (t : Bool) (x : Word) (v : Byte) : (s.writeAs t x v).timaAcc = s.timaAcc := rfl
@[simp] theorem State.writeAs_fault (s : State) (t : Bool) (x : Word) (v : Byte) : (s.writeAs t x v).fault = s.fault := rfl
@[simp] theorem State.writeAs_mem (s : State) (t : Bool) (x : Word) (v : Byte) : (s.writeAs t x v).mem = s.config.bus.afterWrite8 s.mem t x v := rfl
@[simp] theorem State.writeAs_config (s : State) (t : Bool) (x : Word) (v : Byte) : (s.writeAs t x v).config = s.config := rfl
@[simp] theorem State.writeAs_trace (s : State) (t : Bool) (x : Word) (v : Byte) : (s.writeAs t x v).trace = s.trace ++ [.write x v] := rfl
@[simp] theorem State.writeAs_opAddr (s : State) (t : Bool) (x : Word) (v : Byte) : (s.writeAs t x v).opAddr = s.opAddr := rfl
@[simp] theorem State.writeAs_outcome (s : State) (t : Bool) (x : Word) (v : Byte) : (s.writeAs t x v).outcome = s.outcome := rfl

/-! ### `write8` -/

@[simp] theorem State.write8_a (s : State) (x : Word) (v : Byte) : (s.write8 x v).a = s.a := rfl
@[simp] theorem State.write8_f (s : State) (x : Word) (v : Byte) : (s.write8 x v).f = s.f := rfl
@[simp] theorem State.write8_b (s : State) (x : Word) (v : Byte) : (s.write8 x v).b = s.b := rfl
@[simp] theorem State.write8_c (s : State) (x : Word) (v : Byte) : (s.write8 x v).c = s.c := rfl
@[simp] theorem State.write8_d (s : State) (x : Word) (v : Byte) : (s.write8 x v).d = s.d := rfl
@[simp] theorem State.write8_e (s : State) (x : Word) (v : Byte) : (s.write8 x v).e = s.e := rfl
@[simp] theorem State.write8_h (s : State) (x : Word) (v : Byte) : (s.write8 x v).h = s.h := rfl
@[simp] theorem State.write8_l (s : State) (x : Word) (v : Byte) : (s.write8 x v).l = s.l := rfl
@[simp] theorem State.write8_sp (s : State) (x : Word) (v : Byte) : (s.write8 x v).sp = s.sp := rfl
@[simp] theorem State.write8_pc (s : State) (x : Word) (v : Byte) : (s.write8 x v).pc = s.pc := rfl
@[simp] theorem State.write8_ime (s : State) (x : Word) (v : Byte) : (s.write8 x v).ime = s.ime := rfl
@[simp] theorem State.write8_eiPending (s : State) (x : Word) (v : Byte) : (s.write8 x v).eiPending = s.eiPending := rfl
@[simp] theorem State.write8_halted (s : State) (x : Word) (v : Byte) : (s.write8 x v).halted = s.halted := rfl
@[simp] theorem State.write8_stopped (s : State) (x : Word) (v : Byte) : (s.write8 x v).stopped = s.stopped := rfl
@[simp] theorem State.write8_haltBugArmed (s : State) (x : Word) (v : Byte) : (s.write8 x v).haltBugArmed = s.haltBugArmed := rfl
@[simp] theorem State.write8_divAcc (s : State) (x : Word) (v : Byte) : (s.write8 x v).divAcc = s.divAcc := rfl
@[simp] theorem State.write8_timaAcc (s : State) (x : Word) (v : Byte) : (s.write8 x v).timaAcc = s.timaAcc := rfl
@[simp] theorem State.write8_fault (s : State) (x : Word) (v : Byte) : (s.write8 x v).fault = s.fault := rfl
@[simp] theorem State.write8_mem (s : State) (x : Word) (v : Byte) : (s.write8 x v).mem = s.config.bus.afterWrite8 s.mem false x v := rfl
@[simp] theorem State.write8_config (s : State) (x : Word) (v : Byte) : (s.write8 x v).config = s.config := rfl
@[simp] theorem State.write8_trace (s : State) (x : Word) (v : Byte) : (s.write8 x v).trace = s.trace ++ [.write x v] := rfl
@[simp] theorem State.write8_opAddr (s : State) (x : Word) (v : Byte) : (s.write8 x v).opAddr = s.opAddr := rfl
@[simp] theorem State.write8_outcome (s : State) (x : Word) (v : Byte) : (s.write8 x v).outcome = s.outcome := rfl

/-! ### `timerWrite8` -/

@[simp] theorem State.timerWrite8_a (s : State) (x : Word) (v : Byte) : (s.timerWrite8 x v).a = s.a := rfl
@[simp] theorem State.timerWrite8_f (s : State) (x : Word) (v : Byte) : (s.timerWrite8 x v).f = s.f := rfl
@[simp] theorem State.timerWrite8_b (s : State) (x : Word) (v : Byte) : (s.timerWrite8 x v).b = s.b := rfl
@[simp] theorem State.timerWrite8_c (s : State) (x : Word) (v : Byte) : (s.timerWrite8 x v).c = s.c := rfl
@[simp] theorem State.timerWrite8_d (s : State) (x : Word) (v : Byte) : (s.timerWrite8 x v).d = s.d := rfl
@[simp] theorem State.timerWrite8_e (s : State) (x : Word) (v : Byte) : (s.timerWrite8 x v).e = s.e := rfl
@[simp] theorem State.timerWrite8_h (s : State) (x : Word) (v : Byte) : (s.timerWrite8 x v).h = s.h := rfl
@[simp] theorem State.timerWrite8_l (s : State) (x : Word) (v : Byte) : (s.timerWrite8 x v).l = s.l := rfl
@[simp] theorem State.timerWrite8_sp (s : State) (x : Word) (v : Byte) : (s.timerWrite8 x v).sp = s.sp := rfl
@[simp] theorem State.timerWrite8_pc (s : State) (x : Word) (v : Byte) : (s.timerWrite8 x v).pc = s.pc := rfl
@[simp] theorem State.timerWrite8_ime (s : State) (x : Word) (v : Byte) : (s.timerWrite8 x v).ime = s.ime := rfl
@[simp] theorem State.timerWrite8_eiPending (s : State) (x : Word) (v : Byte) : (s.timerWrite8 x v).eiPending = s.eiPending := rfl
@[simp] theorem State.timerWrite8_halted (s : State) (x : Word) (v : Byte) : (s.timerWrite8 x v).halted = s.halted := rfl
@[simp] theorem State.timerWrite8_stopped (s : State) (x : Word) (v : Byte) : (s.timerWrite8 x v).stopped = s.stopped := rfl
@[simp] theorem State.timerWrite8_haltBugArmed (s : State) (x : Word) (v : Byte) : (s.timerWrite8 x v).haltBugArmed = s.haltBugArmed := rfl
@[simp] theorem State.timerWrite8_divAcc (s : State) (x : Word) (v : Byte) : (s.timerWrite8 x v).divAcc = s.divAcc := rfl
@[simp] theorem State.timerWrite8_timaAcc (s : State) (x : Word) (v : Byte) : (s.timerWrite8 x v).timaAcc = s.timaAcc := rfl
@[simp] theorem State.timerWrite8_fault (s : State) (x : Word) (v : Byte) : (s.timerWrite8 x v).fault = s.fault := rfl
@[simp] theorem State.timerWrite8_mem (s : State) (x : Word) (v : Byte) : (s.timerWrite8 x v).mem = s.config.bus.afterWrite8 s.mem true x v := rfl
@[simp] theorem State.timerWrite8_config (s : State) (x : Word) (v : Byte) : (s.timerWrite8 x v).config = s.config := rfl
@[simp] theorem State.timerWrite8_trace (s : State) (x : Word) (v : Byte) : (s.timerWrite8 x v).trace = s.trace ++ [.write x v] := rfl
@[simp] theorem State.timerWrite8_opAddr (s : State) (x : Word) (v : Byte) : (s.timerWrite8 x v).opAddr = s.opAddr := rfl
@[simp] theorem State.timerWrite8_outcome (s : State) (x : Word) (v : Byte) : (s.timerWrite8 x v).outcome = s.outcome := rfl

/-! ### `afterRead16` -/

@[simp] theorem State.afterRead16_a (s : State) (x : Word) : (s.afterRead16 x).a = s.a := rfl
@[simp] theorem State.afterRead16_f (s : State) (x : Word) : (s.afterRead16 x).f = s.f := rfl
@[simp] theorem State.afterRead16_b (s : State) (x : Word) : (s.afterRead16 x).b = s.b := rfl
@[simp] theorem State.afterRead16_c (s : State) (x : Word) : (s.afterRead16 x).c = s.c := rfl
@[simp] theorem State.afterRead16_d (s : State) (x : Word) : (s.afterRead16 x).d = s.d := rfl
@[simp] theorem State.afterRead16_e (s : State) (x : Word) : (s.afterRead16 x).e = s.e := rfl
@[simp] theorem State.afterRead16_h (s : State) (x : Word) : (s.afterRead16 x).h = s.h := rfl
@[simp] theorem State.afterRead16_l (s : State) (x : Word) : (s.afterRead16 x).l = s.l := rfl
@[simp] theorem State.afterRead16_sp (s : State) (x : Word) : (s.afterRead16 x).sp = s.sp := rfl
@[simp] theorem State.afterRead16_pc (s : State) (x : Word) : (s.afterRead16 x).pc = s.pc := rfl
@[simp] theorem State.afterRead16_ime (s : State) (x : Word) : (s.afterRead16 x).ime = s.ime := rfl
@[simp] theorem State.afterRead16_eiPending (s : State) (x : Word) : (s.afterRead16 x).eiPending = s.eiPending := rfl
@[simp] theorem State.afterRead16_halted (s : State) (x : Word) : (s.afterRead16 x).halted = s.halted := rfl
@[simp] theorem State.afterRead16_stopped (s : State) (x : Word) : (s.afterRead16 x).stopped = s.stopped := rfl
@[simp] theorem State.afterRead16_haltBugArmed (s : State) (x : Word) : (s.afterRead16 x).haltBugArmed = s.haltBugArmed := rfl
@[simp] theorem State.afterRead16_divAcc (s : State) (x : Word) : (s.afterRead16 x).divAcc = s.divAcc := rfl
@[simp] theorem State.afterRead16_timaAcc (s : State) (x : Word) : (s.afterRead16 x).timaAcc = s.timaAcc := rfl
@[simp] theorem State.afterRead16_fault (s : State) (x : Word) : (s.afterRead16 x).fault = s.fault := rfl
@[simp] theorem State.afterRead16_mem (s : State) (x : Word) : (s.afterRead16 x).mem = s.config.bus.afterRead8 (s.config.bus.afterRead8 s.mem x) (x + 1) := rfl
@[simp] theorem State.afterRead16_config (s : State) (x : Word) : (s.afterRead16 x).config = s.config := rfl
@[simp] theorem State.afterRead16_trace (s : State) (x : Word) : (s.afterRead16 x).trace = s.trace ++ [.read x (s.peek x)] ++ [.read (x + 1) ((s.afterRead x).peek (x + 1))] := rfl
@[simp] theorem State.afterRead16_opAddr (s : State) (x : Word) : (s.afterRead16 x).opAddr = s.opAddr := rfl
@[simp] theorem State.afterRead16_outcome (s : State) (x : Word) : (s.afterRead16 x).outcome = s.outcome := rfl

/-! ### `write16` -/

@[simp] theorem State.write16_a (s : State) (x v : Word) : (s.write16 x v).a = s.a := rfl
@[simp] theorem State.write16_f (s : State) (x v : Word) : (s.write16 x v).f = s.f := rfl
@[simp] theorem State.write16_b (s : State) (x v : Word) : (s.write16 x v).b = s.b := rfl
@[simp] theorem State.write16_c (s : State) (x v : Word) : (s.write16 x v).c = s.c := rfl
@[simp] theorem State.write16_d (s : State) (x v : Word) : (s.write16 x v).d = s.d := rfl
@[simp] theorem State.write16_e (s : State) (x v : Word) : (s.write16 x v).e = s.e := rfl
@[simp] theorem State.write16_h (s : State) (x v : Word) : (s.write16 x v).h = s.h := rfl
@[simp] theorem State.write16_l (s : State) (x v : Word) : (s.write16 x v).l = s.l := rfl
@[simp] theorem State.write16_sp (s : State) (x v : Word) : (s.write16 x v).sp = s.sp := rfl
@[simp] theorem State.write16_pc (s : State) (x v : Word) : (s.write16 x v).pc = s.pc := rfl
@[simp] theorem State.write16_ime (s : State) (x v : Word) : (s.write16 x v).ime = s.ime := rfl
@[simp] theorem State.write16_eiPending (s : State) (x v : Word) : (s.write16 x v).eiPending = s.eiPending := rfl
@[simp] theorem State.write16_halted (s : State) (x v : Word) : (s.write16 x v).halted = s.halted := rfl
@[simp] theorem State.write16_stopped (s : State) (x v : Word) : (s.write16 x v).stopped = s.stopped := rfl
@[simp] theorem State.write16_haltBugArmed (s : State) (x v : Word) : (s.write16 x v).haltBugArmed = s.haltBugArmed := rfl
@[simp] theorem State.write16_divAcc (s : State) (x v : Word) : (s.write16 x v).divAcc = s.divAcc := rfl
@[simp] theorem State.write16_timaAcc (s : State) (x v : Word) : (s.write16 x v).timaAcc = s.timaAcc := rfl
@[simp] theorem State.write16_fault (s : State) (x v : Word) : (s.write16 x v).fault = s.fault := rfl
@[simp] theorem State.write16_mem (s : State) (x v : Word) : (s.write16 x v).mem = s.config.bus.afterWrite8 (s.config.bus.afterWrite8 s.mem false x (lowByte v)) false (x + 1) (highByte v) := rfl
@[simp] theorem State.write16_config (s : State) (x v : Word) : (s.write16 x v).config = s.config := rfl
@[simp] theorem State.write16_trace (s : State) (x v : Word) : (s.write16 x v).trace = s.trace ++ [.write x (lowByte v)] ++ [.write (x + 1) (highByte v)] := rfl
@[simp] theorem State.write16_opAddr (s : State) (x v : Word) : (s.write16 x v).opAddr = s.opAddr := rfl
@[simp] theorem State.write16_outcome (s : State) (x v : Word) : (s.write16 x v).outcome = s.outcome := rfl

/-! ### `push16` -/

@[simp] theorem State.push16_a (s : State) (v : Word) : (s.push16 v).a = s.a := rfl
@[simp] theorem State.push16_f (s : State) (v : Word) : (s.push16 v).f = s.f := rfl
@[simp] theorem State.push16_b (s : State) (v : Word) : (s.push16 v).b = s.b := rfl
@[simp] theorem State.push16_c (s : State) (v : Word) : (s.push16 v).c = s.c := rfl
@[simp] theorem State.push16_d (s : State) (v : Word) : (s.push16 v).d = s.d := rfl
@[simp] theorem State.push16_e (s : State) (v : Word) : (s.push16 v).e = s.e := rfl
@[simp] theorem State.push16_h (s : State) (v : Word) : (s.push16 v).h = s.h := rfl
@[simp] theorem State.push16_l (s : State) (v : Word) : (s.push16 v).l = s.l := rfl
@[simp] theorem State.push16_sp (s : State) (v : Word) : (s.push16 v).sp = s.sp - 2 := rfl
@[simp] theorem State.push16_pc (s : State) (v : Word) : (s.push16 v).pc = s.pc := rfl
@[simp] theorem State.push16_ime (s : State) (v : Word) : (s.push16 v).ime = s.ime := rfl
@[simp] theorem State.push16_eiPending (s : State) (v : Word) : (s.push16 v).eiPending = s.eiPending := rfl
@[simp] theorem State.push16_halted (s : State) (v : Word) : (s.push16 v).halted = s.halted := rfl
@[simp] theorem State.push16_stopped (s : State) (v : Word) : (s.push16 v).stopped = s.stopped := rfl
@[simp] theorem State.push16_haltBugArmed (s : State) (v : Word) : (s.push16 v).haltBugArmed = s.haltBugArmed := rfl
@[simp] theorem State.push16_divAcc (s : State) (v : Word) : (s.push16 v).divAcc = s.divAcc := rfl
@[simp] theorem State.push16_timaAcc (s : State) (v : Word) : (s.push16 v).timaAcc = s.timaAcc := rfl
@[simp] theorem State.push16_fault (s : State) (v : Word) : (s.push16 v).fault = s.fault := rfl
@[simp] theorem State.push16_mem (s : State) (v : Word) : (s.push16 v).mem = s.config.bus.afterWrite8 (s.config.bus.afterWrite8 s.mem false (s.sp - 2) (lowByte v)) false (s.sp - 2 + 1) (highByte v) := rfl
@[simp] theorem State.push16_config (s : State) (v : Word) : (s.push16 v).config = s.config := rfl
@[simp] theorem State.push16_trace (s : State) (v : Word) : (s.push16 v).trace = s.trace ++ [.write (s.sp - 2) (lowByte v)] ++ [.write (s.sp - 2 + 1) (highByte v)] := rfl
@[simp] theorem State.push16_opAddr (s : State) (v : Word) : (s.push16 v).opAddr = s.opAddr := rfl
@[simp] theorem State.push16_outcome (s : State) (v : Word) : (s.push16 v).outcome = s.outcome := rfl

/-! ### `afterPop` -/

@[simp] theorem State.afterPop_a (s : State) : (s.afterPop).a = s.a := rfl
@[simp] theorem State.afterPop_f (s : State) : (s.afterPop).f = s.f := rfl
@[simp] theorem State.afterPop_b (s : State) : (s.afterPop).b = s.b := rfl
@[simp] theorem State.afterPop_c (s : State) : (s.afterPop).c = s.c := rfl
@[simp] theorem State.afterPop_d (s : State) : (s.afterPop).d = s.d := rfl
@[simp] theorem State.afterPop_e (s : State) : (s.afterPop).e = s.e := rfl
@[simp] theorem State.afterPop_h (s : State) : (s.afterPop).h = s.h := rfl
@[simp] theorem State.afterPop_l (s : State) : (s.afterPop).l = s.l := rfl
@[simp] theorem State.afterPop_sp (s : State) : (s.afterPop).sp = s.sp + 2 := rfl
@[simp] theorem State.afterPop_pc (s : State) : (s.afterPop).pc = s.pc := rfl
@[simp] theorem State.afterPop_ime (s : State) : (s.afterPop).ime = s.ime := rfl
@[simp] theorem State.afterPop_eiPending (s : State) : (s.afterPop).eiPending = s.eiPending := rfl
@[simp] theorem State.afterPop_halted (s : State) : (s.afterPop).halted = s.halted := rfl
@[simp] theorem State.afterPop_stopped (s : State) : (s.afterPop).stopped = s.stopped := rfl
@[simp] theorem State.afterPop_haltBugArmed (s : State) : (s.afterPop).haltBugArmed = s.haltBugArmed := rfl
@[simp] theorem State.afterPop_divAcc (s : State) : (s.afterPop).divAcc = s.divAcc := rfl
@[simp] theorem State.afterPop_timaAcc (s : State) : (s.afterPop).timaAcc = s.timaAcc := rfl
@[simp] theorem State.afterPop_fault (s : State) : (s.afterPop).fault = s.fault := rfl
@[simp] theorem State.afterPop_mem (s : State) : (s.afterPop).mem = s.config.bus.afterRead8 (s.config.bus.afterRead8 s.mem s.sp) (s.sp + 1) := rfl
@[simp] theorem State.afterPop_config (s : State) : (s.afterPop).config = s.config := rfl
@[simp] theorem State.afterPop_trace (s : State) : (s.afterPop).trace = s.trace ++ [.read s.sp (s.peek s.sp)] ++ [.read (s.sp + 1) ((s.afterRead s.sp).peek (s.sp + 1))] := rfl
@[simp] theorem State.afterPop_opAddr (s : State) : (s.afterPop).opAddr = s.opAddr := rfl
@[simp] theorem State.afterPop_outcome (s : State) : (s.afterPop).outcome = s.outcome := rfl

/-! ### `afterPending` -/

@[simp] theorem State.afterPending_a (s : State) : (s.afterPending).a = s.a := rfl
@[simp] theorem State.afterPending_f (s : State) : (s.afterPending).f = s.f := rfl
@[simp] theorem State.afterPending_b (s : State) : (s.afterPending).b = s.b := rfl
@[simp] theorem State.afterPending_c (s : State) : (s.afterPending).c = s.c := rfl
@[simp] theorem State.afterPending_d (s : State) : (s.afterPending).d = s.d := rfl
@[simp] theorem State.afterPending_e (s : State) : (s.afterPending).e = s.e := rfl
@[simp] theorem State.afterPending_h (s : State) : (s.afterPending).h = s.h := rfl
@[simp] theorem State.afterPending_l (s : State) : (s.afterPending).l = s.l := rfl
@[simp] theorem State.afterPending_sp (s : State) : (s.afterPending).sp = s.sp := rfl
@[simp] theorem State.afterPending_pc (s : State) : (s.afterPending).pc = s.pc := rfl
@[simp] theorem State.afterPending_ime (s : State) : (s.afterPending).ime = s.ime := rfl
@[simp] theorem State.afterPending_eiPending (s : State) : (s.afterPending).eiPending = s.eiPending := rfl
@[simp] theorem State.afterPending_halted (s : State) : (s.afterPending).halted = s.halted := rfl
@[simp] theorem State.afterPending_stopped (s : State) : (s.afterPending).stopped = s.stopped := rfl
@[simp] theorem State.afterPending_haltBugArmed (s : State) : (s.afterPending).haltBugArmed = s.haltBugArmed := rfl
@[simp] theorem State.afterPending_divAcc (s : State) : (s.afterPending).divAcc = s.divAcc := rfl
@[simp] theorem State.afterPending_timaAcc (s : State) : (s.afterPending).timaAcc = s.timaAcc := rfl
@[simp] theorem State.afterPending_fault (s : State) : (s.afterPending).fault = s.fault := rfl
@[simp] theorem State.afterPending_mem (s : State) : (s.afterPending).mem = s.config.bus.afterRead8 (s.config.bus.afterRead8 s.mem addrIe) addrIf := rfl
@[simp] theorem State.afterPending_config (s : State) : (s.afterPending).config = s.config := rfl
@[simp] theorem State.afterPending_trace (s : State) : (s.afterPending).trace = s.trace ++ [.read addrIe (s.peek addrIe)] ++ [.read addrIf ((s.afterRead addrIe).peek addrIf)] := rfl
@[simp] theorem State.afterPending_opAddr (s : State) : (s.afterPending).opAddr = s.opAddr := rfl
@[simp] theorem State.afterPending_outcome (s : State) : (s.afterPending).outcome = s.outcome := rfl

/-! ### `requestIrq` -/

@[simp] theorem State.requestIrq_a (s : State) (k : Irq) : (s.requestIrq k).a = s.a := rfl
@[simp] theorem State.requestIrq_f (s : State) (k : Irq) : (s.requestIrq k).f = s.f := rfl
@[simp] theorem State.requestIrq_b (s : State) (k : Irq) : (s.requestIrq k).b = s.b := rfl
@[simp] theorem State.requestIrq_c (s : State) (k : Irq) : (s.requestIrq k).c = s.c := rfl
@[simp] theorem State.requestIrq_d (s : State) (k : Irq) : (s.requestIrq k).d = s.d := rfl
@[simp] theorem State.requestIrq_e (s : State) (k : Irq) : (s.requestIrq k).e = s.e := rfl
@[simp] theorem State.requestIrq_h (s : State) (k : Irq) : (s.requestIrq k).h = s.h := rfl
@[simp] theorem State.requestIrq_l (s : State) (k : Irq) : (s.requestIrq k).l = s.l := rfl
@[simp] theorem State.requestIrq_sp (s : State) (k : Irq) : (s.requestIrq k).sp = s.sp := rfl
@[simp] theorem State.requestIrq_pc (s : State) (k : Irq) : (s.requestIrq k).pc = s.pc := rfl
@[simp] theorem State.requestIrq_ime (s : State) (k : Irq) : (s.requestIrq k).ime = s.ime := rfl
@[simp] theorem State.requestIrq_eiPending (s : State) (k : Irq) : (s.requestIrq k).eiPending = s.eiPending := rfl
@[simp] theorem State.requestIrq_halted (s : State) (k : Irq) : (s.requestIrq k).halted = s.halted := rfl
@[simp] theorem State.requestIrq_stopped (s : State) (k : Irq) : (s.requestIrq k).stopped = s.stopped := rfl
@[simp] theorem State.requestIrq_haltBugArmed (s : State) (k : Irq) : (s.requestIrq k).haltBugArmed = s.haltBugArmed := rfl
@[simp] theorem State.requestIrq_divAcc (s : State) (k : Irq) : (s.requestIrq k).divAcc = s.divAcc := rfl
@[simp] theorem State.requestIrq_timaAcc (s : State) (k : Irq) : (s.requestIrq k).timaAcc = s.timaAcc := rfl
@[simp] theorem State.requestIrq_fault (s : State) (k : Irq) : (s.requestIrq k).fault = s.fault := rfl
@[simp] theorem State.requestIrq_mem (s : State) (k : Irq) : (s.requestIrq k).mem = s.config.bus.afterWrite8 (s.config.bus.afterRead8 s.mem addrIf) false addrIf (s.peek addrIf ||| bitMask k.bit) := rfl
@[simp] theorem State.requestIrq_config (s : State) (k : Irq) : (s.requestIrq k).config = s.config := rfl
@[simp] theorem State.requestIrq_trace (s : State) (k : Irq) : (s.requestIrq k).trace = s.trace ++ [.read addrIf (s.peek addrIf)] ++ [.write addrIf (s.peek addrIf ||| bitMask k.bit)] := rfl
@[simp] theorem State.requestIrq_opAddr (s : State) (k : Irq) : (s.requestIrq k).opAddr = s.opAddr := rfl
@[simp] theorem State.requestIrq_outcome (s : State) (k : Irq) : (s.requestIrq k).outcome = s.outcome := rfl

/-! ### `clearRequest` -/

@[simp] theorem State.clearRequest_a (s : State) (k : Irq) : (s.clearRequest k).a = s.a := rfl
@[simp] theorem State.clearRequest_f (s : State) (k : Irq) : (s.clearRequest k).f = s.f := rfl
@[simp] theorem State.clearRequest_b (s : State) (k : Irq) : (s.clearRequest k).b = s.b := rfl
@[simp] theorem State.clearRequest_c (s : State) (k : Irq) : (s.clearRequest k).c = s.c := rfl
@[simp] theorem State.clearRequest_d (s : State) (k : Irq) : (s.clearRequest k).d = s.d := rfl
@[simp] theorem State.clearRequest_e (s : State) (k : Irq) : (s.clearRequest k).e = s.e := rfl
@[simp] theorem State.clearRequest_h (s : State) (k : Irq) : (s.clearRequest k).h = s.h := rfl
@[simp] theorem State.clearRequest_l (s : State) (k : Irq) : (s.clearRequest k).l = s.l := rfl
@[simp] theorem State.clearRequest_sp (s : State) (k : Irq) : (s.clearRequest k).sp = s.sp := rfl
@[simp] theorem State.clearRequest_pc (s : State) (k : Irq) : (s.clearRequest k).pc = s.pc := rfl
@[simp] theorem State.clearRequest_ime (s : State) (k : Irq) : (s.clearRequest k).ime = s.ime := rfl
@[simp] theorem State.clearRequest_eiPending (s : State) (k : Irq) : (s.clearRequest k).eiPending = s.eiPending := rfl
@[simp] theorem State.clearRequest_halted (s : State) (k : Irq) : (s.clearRequest k).halted = s.halted := rfl
@[simp] theorem State.clearRequest_stopped (s : State) (k : Irq) : (s.clearRequest k).stopped = s.stopped := rfl
@[simp] theorem State.clearRequest_haltBugArmed (s : State) (k : Irq) : (s.clearRequest k).haltBugArmed = s.haltBugArmed := rfl
@[simp] theorem State.clearRequest_divAcc (s : State) (k : Irq) : (s.clearRequest k).divAcc = s.divAcc := rfl
@[simp] theorem State.clearRequest_timaAcc (s : State) (k : Irq) : (s.clearRequest k).timaAcc = s.timaAcc := rfl
@[simp] theorem State.clearRequest_fault (s : State) (k : Irq) : (s.clearRequest k).fault = s.fault := rfl
@[simp] theorem State.clearRequest_mem (s : State) (k : Irq) : (s.clearRequest k).mem = s.config.bus.afterWrite8 (s.config.bus.afterRead8 s.mem addrIf) false addrIf (s.peek addrIf &&& ~~~ bitMask k.bit) := rfl
@[simp] theorem State.clearRequest_config (s : State) (k : Irq) : (s.clearRequest k).config = s.config := rfl
@[simp] theorem State.clearRequest_trace (s : State) (k : Irq) : (s.clearRequest k).trace = s.trace ++ [.read addrIf (s.peek addrIf)] ++ [.write addrIf (s.peek addrIf &&& ~~~ bitMask k.bit)] := rfl
@[simp] theorem State.clearRequest_opAddr (s : State) (k : Irq) : (s.clearRequest k).opAddr = s.opAddr := rfl
@[simp] theorem State.clearRequest_outcome (s : State) (k : Irq) : (s.clearRequest k).outcome = s.outcome := rfl

/-! ### `timerRequest` -/

@[simp] theorem State.timerRequest_a (s : State) : (s.timerRequest).a = s.a := rfl
@[simp] theorem State.timerRequest_f (s : State) : (s.timerRequest).f = s.f := rfl
@[simp] theorem State.timerRequest_b (s : State) : (s.timerRequest).b = s.b := rfl
@[simp] theorem State.timerRequest_c (s : State) : (s.timerRequest).c = s.c := rfl
@[simp] theorem State.timerRequest_d (s : State) : (s.timerRequest).d = s.d := rfl
@[simp] theorem State.timerRequest_e (s : State) : (s.timerRequest).e = s.e := rfl
@[simp] theorem State.timerRequest_h (s : State) : (s.timerRequest).h = s.h := rfl
@[simp] theorem State.timerRequest_l (s : State) : (s.timerRequest).l = s.l := rfl
@[simp] theorem State.timerRequest_sp (s : State) : (s.timerRequest).sp = s.sp := rfl
@[simp] theorem State.timerRequest_pc (s : State) : (s.timerRequest).pc = s.pc := rfl
@[simp] theorem State.timerRequest_ime (s : State) : (s.timerRequest).ime = s.ime := rfl
@[simp] theorem State.timerRequest_eiPending (s : State) : (s.timerRequest).eiPending = s.eiPending := rfl
@[simp] theorem State.timerRequest_halted (s : State) : (s.timerRequest).halted = s.halted := rfl
@[simp] theorem State.timerRequest_stopped (s : State) : (s.timerRequest).stopped = s.stopped := rfl
@[simp] theorem State.timerRequest_haltBugArmed (s : State) : (s.timerRequest).haltBugArmed = s.haltBugArmed := rfl
@[simp] theorem State.timerRequest_divAcc (s : State) : (s.timerRequest).divAcc = s.divAcc := rfl
@[simp] theorem State.timerRequest_timaAcc (s : State) : (s.timerRequest).timaAcc = s.timaAcc := rfl
@[simp] theorem State.timerRequest_fault (s : State) : (s.timerRequest).fault = s.fault := rfl
@[simp] theorem State.timerRequest_mem (s : State) : (s.timerRequest).mem = s.config.bus.afterWrite8 (s.config.bus.afterRead8 s.mem addrIf) true addrIf (s.peek addrIf ||| bitMask Irq.timer.bit) := rfl
@[simp] theorem State.timerRequest_config (s : State) : (s.timerRequest).config = s.config := rfl
@[simp] theorem State.timerRequest_trace (s : State) : (s.timerRequest).trace = s.trace ++ [.read addrIf (s.peek addrIf)] ++ [.write addrIf (s.peek addrIf ||| bitMask Irq.timer.bit)] := rfl
@[simp] theorem State.timerRequest_opAddr (s : State) : (s.timerRequest).opAddr = s.opAddr := rfl
@[simp] theorem State.timerRequest_outcome (s : State) : (s.timerRequest).outcome = s.outcome := rfl

/-! ### `returnFromInterrupt` -/

@[simp] theorem State.returnFromInterrupt_a (s : State) : (s.returnFromInterrupt).a = s.a := rfl
@[simp] theorem State.returnFromInterrupt_f (s : State) : (s.returnFromInterrupt).f = s.f := rfl
@[simp] theorem State.returnFromInterrupt_b (s : State) : (s.returnFromInterrupt).b = s.b := rfl
@[simp] theorem State.returnFromInterrupt_c (s : State) : (s.returnFromInterrupt).c = s.c := rfl
@[simp] theorem State.returnFromInterrupt_d (s : State) : (s.returnFromInterrupt).d = s.d := rfl
@[simp] theorem State.returnFromInterrupt_e (s : State) : (s.returnFromInterrupt).e = s.e := rfl
@[simp] theorem State.returnFromInterrupt_h (s : State) : (s.returnFromInterrupt).h = s.h := rfl
@[simp] theorem State.returnFromInterrupt_l (s : State) : (s.returnFromInterrupt).l = s.l := rfl
@[simp] theorem State.returnFromInterrupt_sp (s : State) : (s.returnFromInterrupt).sp = s.sp + 2 := rfl
@[simp] theorem State.returnFromInterrupt_pc (s : State) : (s.returnFromInterrupt).pc = s.popValue := rfl
@[simp] theorem State.returnFromInterrupt_ime (s : State) : (s.returnFromInterrupt).ime = true := rfl
@[simp] theorem State.returnFromInterrupt_eiPending (s : State) : (s.returnFromInterrupt).eiPending = s.eiPending := rfl
@[simp] theorem State.returnFromInterrupt_halted (s : State) : (s.returnFromInterrupt).halted = s.halted := rfl
@[simp] theorem State.returnFromInterrupt_stopped (s : State) : (s.returnFromInterrupt).stopped = s.stopped := rfl
@[simp] theorem State.returnFromInterrupt_haltBugArmed (s : State) : (s.returnFromInterrupt).haltBugArmed = s.haltBugArmed := rfl
@[simp] theorem State.returnFromInterrupt_divAcc (s : State) : (s.returnFromInterrupt).divAcc = s.divAcc := rfl
@[simp] theorem State.returnFromInterrupt_timaAcc (s : State) : (s.returnFromInterrupt).timaAcc = s.timaAcc := rfl
@[simp] theorem State.returnFromInterrupt_fault (s : State) : (s.returnFromInterrupt).fault = s.fault := rfl
@[simp] theorem State.returnFromInterrupt_mem (s : State) : (s.returnFromInterrupt).mem = s.config.bus.afterRead8 (s.config.bus.afterRead8 s.mem s.sp) (s.sp + 1) := rfl
@[simp] theorem State.returnFromInterrupt_config (s : State) : (s.returnFromInterrupt).config = s.config := rfl
@[simp] theorem State.returnFromInterrupt_trace (s : State) : (s.returnFromInterrupt).trace = s.trace ++ [.read s.sp (s.peek s.sp)] ++ [.read (s.sp + 1) ((s.afterRead s.sp).peek (s.sp + 1))] := rfl
@[simp] theorem State.returnFromInterrupt_opAddr (s : State) : (s.returnFromInterrupt).opAddr = s.opAddr := rfl
@[simp] theorem State.returnFromInterrupt_outcome (s : State) : (s.returnFromInterrupt).outcome = s.outcome := rfl

/-! ### `afterOpcode` -/

@[simp] theorem State.afterOpcode_a (s : State) : (s.afterOpcode).a = s.a := rfl
@[simp] theorem State.afterOpcode_f (s : State) : (s.afterOpcode).f = s.f := rfl
@[simp] theorem State.afterOpcode_b (s : State) : (s.afterOpcode).b = s.b := rfl
@[simp] theorem State.afterOpcode_c (s : State) : (s.afterOpcode).c = s.c := rfl
@[simp] theorem State.afterOpcode_d (s : State) : (s.afterOpcode).d = s.d := rfl
@[simp] theorem State.afterOpcode_e (s : State) : (s.afterOpcode).e = s.e := rfl
@[simp] theorem State.afterOpcode_h (s : State) : (s.afterOpcode).h = s.h := rfl
@[simp] theorem State.afterOpcode_l (s : State) : (s.afterOpcode).l = s.l := rfl
@[simp] theorem State.afterOpcode_sp (s : State) : (s.afterOpcode).sp = s.sp := rfl
@[simp] theorem State.afterOpcode_pc (s : State) : (s.afterOpcode).pc = if s.haltBugArmed then s.pc else s.pc + 1 := rfl
@[simp] theorem State.afterOpcode_ime (s : State) : (s.afterOpcode).ime = s.ime := rfl
@[simp] theorem State.afterOpcode_eiPending (s : State) : (s.afterOpcode).eiPending = s.eiPending := rfl
@[simp] theorem State.afterOpcode_halted (s : State) : (s.afterOpcode).halted = s.halted := rfl
@[simp] theorem State.afterOpcode_stopped (s : State) : (s.afterOpcode).stopped = s.stopped := rfl
@[simp] theorem State.afterOpcode_haltBugArmed (s : State) : (s.afterOpcode).haltBugArmed = false := rfl
@[simp] theorem State.afterOpcode_divAcc (s : State) : (s.afterOpcode).divAcc = s.divAcc := rfl
@[simp] theorem State.afterOpcode_timaAcc (s : State) : (s.afterOpcode).timaAcc = s.timaAcc := rfl
@[simp] theorem State.afterOpcode_fault (s : State) : (s.afterOpcode).fault = s.fault := rfl
@[simp] theorem State.afterOpcode_mem (s : State) : (s.afterOpcode).mem = s.config.bus.afterRead8 s.mem s.pc := rfl
@[simp] theorem State.afterOpcode_config (s : State) : (s.afterOpcode).config = s.config := rfl
@[simp] theorem State.afterOpcode_trace (s : State) : (s.afterOpcode).trace = s.trace ++ [.read s.pc (s.peek s.pc)] := rfl
@[simp] theorem State.afterOpcode_opAddr (s : State) : (s.afterOpcode).opAddr = s.pc := rfl
@[simp] theorem State.afterOpcode_outcome (s : State) : (s.afterOpcode).outcome = s.outcome := rfl

/-! ### `afterByte` -/

@[simp] theorem State.afterByte_a (s : State) : (s.afterByte).a = s.a := rfl
@[simp] theorem State.afterByte_f (s : State) : (s.afterByte).f = s.f := rfl
@[simp] theorem State.afterByte_b (s : State) : (s.afterByte).b = s.b := rfl
@[simp] theorem State.afterByte_c (s : State) : (s.afterByte).c = s.c := rfl
@[simp] theorem State.afterByte_d (s : State) : (s.afterByte).d = s.d := rfl
@[simp] theorem State.afterByte_e (s : State) : (s.afterByte).e = s.e := rfl
@[simp] theorem State.afterByte_h (s : State) : (s.afterByte).h = s.h := rfl
@[simp] theorem State.afterByte_l (s : State) : (s.afterByte).l = s.l := rfl
@[simp] theorem State.afterByte_sp (s : State) : (s.afterByte).sp = s.sp := rfl
@[simp] theorem State.afterByte_pc (s : State) : (s.afterByte).pc = s.pc + 1 := rfl
@[simp] theorem State.afterByte_ime (s : State) : (s.afterByte).ime = s.ime := rfl
@[simp] theorem State.afterByte_eiPending (s : State) : (s.afterByte).eiPending = s.eiPending := rfl
@[simp] theorem State.afterByte_halted (s : State) : (s.afterByte).halted = s.halted := rfl
@[simp] theorem State.afterByte_stopped (s : State) : (s.afterByte).stopped = s.stopped := rfl
@[simp] theorem State.afterByte_haltBugArmed (s : State) : (s.afterByte).haltBugArmed = s.haltBugArmed := rfl
@[simp] theorem State.afterByte_divAcc (s : State) : (s.afterByte).divAcc = s.divAcc := rfl
@[simp] theorem State.afterByte_timaAcc (s : State) : (s.afterByte).timaAcc = s.timaAcc := rfl
@[simp] theorem State.afterByte_fault (s : State) : (s.afterByte).fault = s.fault := rfl
@[simp] theorem State.afterByte_mem (s : State) : (s.afterByte).mem = s.config.bus.afterRead8 s.mem s.pc := rfl
@[simp] theorem State.afterByte_config (s : State) : (s.afterByte).config = s.config := rfl
@[simp] theorem State.afterByte_trace (s : State) : (s.afterByte).trace = s.trace ++ [.read s.pc (s.peek s.pc)] := rfl
@[simp] theorem State.afterByte_opAddr (s : State) : (s.afterByte).opAddr = s.opAddr := rfl
@[simp] theorem State.afterByte_outcome (s : State) : (s.afterByte).outcome = s.outcome := rfl

/-! ### `divTick` -/

@[simp] theorem State.divTick_a (s : State) : (s.divTick).a = s.a := rfl
@[simp] theorem State.divTick_f (s : State) : (s.divTick).f = s.f := rfl
@[simp] theorem State.divTick_b (s : State) : (s.divTick).b = s.b := rfl
@[simp] theorem State.divTick_c (s : State) : (s.divTick).c = s.c := rfl
@[simp] theorem State.divTick_d (s : State) : (s.divTick).d = s.d := rfl
@[simp] theorem State.divTick_e (s : State) : (s.divTick).e = s.e := rfl
@[simp] theorem State.divTick_h (s : State) : (s.divTick).h = s.h := rfl
@[simp] theorem State.divTick_l (s : State) : (s.divTick).l = s.l := rfl
@[simp] theorem State.divTick_sp (s : State) : (s.divTick).sp = s.sp := rfl
@[simp] theorem State.divTick_pc (s : State) : (s.divTick).pc = s.pc := rfl
@[simp] theorem State.divTick_ime (s : State) : (s.divTick).ime = s.ime := rfl
@[simp] theorem State.divTick_eiPending (s : State) : (s.divTick).eiPending = s.eiPending := rfl
@[simp] theorem State.divTick_halted (s : State) : (s.divTick).halted = s.halted := rfl
@[simp] theorem State.divTick_stopped (s : State) : (s.divTick).stopped = s.stopped := rfl
@[simp] theorem State.divTick_haltBugArmed (s : State) : (s.divTick).haltBugArmed = s.haltBugArmed := rfl
@[simp] theorem State.divTick_divAcc (s : State) : (s.divTick).divAcc = s.divAcc := rfl
@[simp] theorem State.divTick_timaAcc (s : State) : (s.divTick).timaAcc = s.timaAcc := rfl
@[simp] theorem State.divTick_fault (s : State) : (s.divTick).fault = s.fault := rfl
@[simp] theorem State.divTick_mem (s : State) : (s.divTick).mem = s.config.bus.afterWrite8 (s.config.bus.afterRead8 s.mem addrDiv) true addrDiv (s.peek addrDiv + 1) := rfl
@[simp] theorem State.divTick_config (s : State) : (s.divTick).config = s.config := rfl
@[simp] theorem State.divTick_trace (s : State) : (s.divTick).trace = s.trace ++ [.read addrDiv (s.peek addrDiv)] ++ [.write addrDiv (s.peek addrDiv + 1)] := rfl
@[simp] theorem State.divTick_opAddr (s : State) : (s.divTick).opAddr = s.opAddr := rfl
@[simp] theorem State.divTick_outcome (s : State) : (s.divTick).outcome = s.outcome := rfl

/-! ### `setReg8`: what it does to the fields that are no 8-bit register -/

@[simp] theorem State.setReg8_f (s : State) (r : Reg8) (v : Byte) : (s.setReg8 r v).f = s.f := by cases r <;> rfl
@[simp] theorem State.setReg8_sp (s : State) (r : Reg8) (v : Byte) : (s.setReg8 r v).sp = s.sp := by cases r <;> rfl
@[simp] theorem State.setReg8_pc (s : State) (r : Reg8) (v : Byte) : (s.setReg8 r v).pc = s.pc := by cases r <;> rfl
@[simp] theorem State.setReg8_ime (s : State) (r : Reg8) (v : Byte) : (s.setReg8 r v).ime = s.ime := by cases r <;> rfl
@[simp] theorem State.setReg8_eiPending (s : State) (r : Reg8) (v : Byte) : (s.setReg8 r v).eiPending = s.eiPending := by cases r <;> rfl
@[simp] theorem State.setReg8_halted (s : State) (r : Reg8) (v : Byte) : (s.setReg8 r v).halted = s.halted := by cases r <;> rfl
@[simp] theorem State.setReg8_stopped (s : State) (r : Reg8) (v : Byte) : (s.setReg8 r v).stopped = s.stopped := by cases r <;> rfl
@[simp] theorem State.setReg8_haltBugArmed (s : State) (r : Reg8) (v : Byte) : (s.setReg8 r v).haltBugArmed = s.haltBugArmed := by cases r <;> rfl
@[simp] theorem State.setReg8_divAcc (s : State) (r : Reg8) (v : Byte) : (s.setReg8 r v).divAcc = s.divAcc := by cases r <;> rfl
@[simp] theorem State.setReg8_timaAcc (s : State) (r : Reg8) (v : Byte) : (s.setReg8 r v).timaAcc = s.timaAcc := by cases r <;> rfl
@[simp] theorem State.setReg8_fault (s : State) (r : Reg8) (v : Byte) : (s.setReg8 r v).fault = s.fault := by cases r <;> rfl
@[simp] theorem State.setReg8_mem (s : State) (r : Reg8) (v : Byte) : (s.setReg8 r v).mem = s.mem := by cases r <;> rfl
@[simp] theorem State.setReg8_config (s : State) (r : Reg8) (v : Byte) : (s.setReg8 r v).config = s.config := by cases r <;> rfl
@[simp] theorem State.setReg8_trace (s : State) (r : Reg8) (v : Byte) : (s.setReg8 r v).trace = s.trace := by cases r <;> rfl
@[simp] theorem State.setReg8_opAddr (s : State) (r : Reg8) (v : Byte) : (s.setReg8 r v).opAddr = s.opAddr := by cases r <;> rfl
@[simp] theorem State.setReg8_outcome (s : State) (r : Reg8) (v : Byte) : (s.setReg8 r v).outcome = s.outcome := by cases r <;> rfl

/-- Reading a register after writing one. -/
theorem State.reg8_setReg8 (s : State) (r q : Reg8) (v : Byte) :
    (s.setReg8 r v).reg8 q = if q = r then v else s.reg8 q := by
  cases r <;> cases q <;> rfl

@[simp] theorem State.reg8_setReg8_same (s : State) (r : Reg8) (v : Byte) : (s.setReg8 r v).reg8 r = v := by
  cases r <;> rfl

/-! ### The bus: what an access reads, and the reference bus -/

/-- A read returns what the bus and its state say. -/
theorem State.peek_congr {s t : State} (hm : s.mem = t.mem) (hc : s.config = t.config) (x : Word) :
    s.peek x = t.peek x := by
  simp [State.peek, hm, hc]

/-- On the reference bus a read returns the byte stored at the address (R84). -/
theorem State.peek_of_flat {s : State} (h : s.config.bus = .reference) (x : Word) : s.peek x = s.mem.read x.toNat := by
  simp [State.peek, h]

/-- On the reference bus a read has no side effect (R84). -/
theorem State.afterRead_of_flat {s : State} (h : s.config.bus = .reference) (x : Word) :
    s.afterRead x = { s with trace := s.trace ++ [.read x (s.peek x)] } := by
  simp [State.afterRead, h]

/-- On the reference bus a write stores the byte at the address (R84). -/
theorem State.writeAs_of_flat {s : State} (h : s.config.bus = .reference) (t : Bool) (x : Word) (v : Byte) :
    s.writeAs t x v = { s with mem := s.mem.write x.toNat v, trace := s.trace ++ [.write x v] } := by
  simp [State.writeAs, h]

/-- On the reference bus a read leaves every byte alone. -/
theorem State.peek_afterRead_of_flat {s : State} (h : s.config.bus = .reference) (y x : Word) :
    (s.afterRead y).peek x = s.peek x := by
  rw [State.afterRead_of_flat h]; rfl

/-- Read after write on the reference bus (R84). -/
theorem State.peek_writeAs_of_flat {s : State} (h : s.config.bus = .reference) (t : Bool) (a x : Word) (v : Byte) :
    (s.writeAs t a v).peek x = if x = a then v else s.peek x := by
  rw [State.writeAs_of_flat h, State.peek_of_flat h, State.peek_of_flat (by exact h)]
  show (s.mem.write a.toNat v).read x.toNat = _
  rw [Memory.read_write]
  by_cases e : x = a
  · simp [e]
  · rw [if_neg (fun h => e (BitVec.eq_of_toNat_eq h)), if_neg e]

@[simp] theorem State.peek_setAf (s : State) (v : Word) (x : Word) : (s.setAf v).peek x = s.peek x := rfl
@[simp] theorem State.peek_setBc (s : State) (v : Word) (x : Word) : (s.setBc v).peek x = s.peek x := rfl
@[simp] theorem State.peek_setDe (s : State) (v : Word) (x : Word) : (s.setDe v).peek x = s.peek x := rfl
@[simp] theorem State.peek_setHl (s : State) (v : Word) (x : Word) : (s.setHl v).peek x = s.peek x := rfl
@[simp] theorem State.peek_setReg8 (s : State) (r : Reg8) (v : Byte) (x : Word) :
    (s.setReg8 r v).peek x = s.peek x := by cases r <;> rfl

end Sys2Proof.Machine
end

