-- ==== Sys2Proof/Laws/Ops.lean ====
section
/-! SUPPORT. One lemma per shared operation that says what it does: operands, reads after writes, the stack; and, row by
row of the opcode map, what an instruction can do to the state outside the registers and flags. -/

namespace Sys2Proof.Machine

@[simp] theorem State.setPair1_sp_eq (s : State) (v : Word) : s.setPair1 .sp v = { s with sp := v } := rfl
@[simp] theorem State.setPair1_bc_eq (s : State) (v : Word) : s.setPair1 .bc v = s.setBc v := rfl
@[simp] theorem State.setPair1_de_eq (s : State) (v : Word) : s.setPair1 .de v = s.setDe v := rfl
@[simp] theorem State.setPair1_hl_eq (s : State) (v : Word) : s.setPair1 .hl v = s.setHl v := rfl
@[simp] theorem State.setPair2_bc_eq (s : State) (v : Word) : s.setPair2 .bc v = s.setBc v := rfl
@[simp] theorem State.setPair2_de_eq (s : State) (v : Word) : s.setPair2 .de v = s.setDe v := rfl
@[simp] theorem State.setPair2_hl_eq (s : State) (v : Word) : s.setPair2 .hl v = s.setHl v := rfl
@[simp] theorem State.setPair2_af_eq (s : State) (v : Word) : s.setPair2 .af v = s.setAf v := rfl
@[simp] theorem State.setPair1_mem (s : State) (p : Pair1) (v : Word) : (s.setPair1 p v).mem = s.mem := by cases p <;> rfl
@[simp] theorem State.setPair1_config (s : State) (p : Pair1) (v : Word) : (s.setPair1 p v).config = s.config := by
  cases p <;> rfl
@[simp] theorem State.setPair2_mem (s : State) (p : Pair2) (v : Word) : (s.setPair2 p v).mem = s.mem := by cases p <;> rfl
@[simp] theorem State.setPair2_config (s : State) (p : Pair2) (v : Word) : (s.setPair2 p v).config = s.config := by
  cases p <;> rfl

/-- Writing a pair changes 8-bit registers alone. -/
theorem State.setPair2_frame (s : State) (p : Pair2) (v : Word) : s.setPair2 p v = { s with
    a := (s.setPair2 p v).a, f := (s.setPair2 p v).f, b := (s.setPair2 p v).b, c := (s.setPair2 p v).c
    d := (s.setPair2 p v).d, e := (s.setPair2 p v).e, h := (s.setPair2 p v).h, l := (s.setPair2 p v).l } := by
  cases p <;> rfl

@[simp] theorem State.afterSrc8_reg (s : State) (r : Reg8) : s.afterSrc8 (.reg r) = s := rfl
@[simp] theorem State.afterSrc8_atHl (s : State) : s.afterSrc8 .atHl = s.afterRead s.hl := rfl
@[simp] theorem State.src8_reg (s : State) (r : Reg8) : s.src8 (.reg r) = s.reg8 r := rfl
@[simp] theorem State.src8_atHl (s : State) : s.src8 .atHl = s.peek s.hl := rfl
@[simp] theorem State.dst8_reg (s : State) (r : Reg8) (v : Byte) : s.dst8 (.reg r) v = s.setReg8 r v := rfl
@[simp] theorem State.dst8_atHl (s : State) (v : Byte) : s.dst8 .atHl v = s.write8 s.hl v := rfl

/-- The low half of a concatenation. -/
theorem lowByte_concat16 (h l : Byte) : lowByte (concat16 h l) = l := by
  apply BitVec.eq_of_getLsbD_eq; intro i hi
  simp only [lowByte, concat16, BitVec.getLsbD_extractLsb', BitVec.getLsbD_append]
  simp [hi]

/-- The high half of a concatenation. -/
theorem highByte_concat16 (h l : Byte) : highByte (concat16 h l) = h := by
  apply BitVec.eq_of_getLsbD_eq; intro i hi
  simp only [highByte, concat16, BitVec.getLsbD_extractLsb', BitVec.getLsbD_append]
  simp [hi]

/-- A word is its two halves. -/
theorem concat16_high_low (v : Word) : concat16 (highByte v) (lowByte v) = v := by
  apply BitVec.eq_of_getLsbD_eq; intro i hi
  simp only [lowByte, highByte, concat16, BitVec.getLsbD_append, BitVec.getLsbD_extractLsb']
  by_cases h : i < 8
  · simp [h]
  · simp [h, show i - 8 < 8 by omega, show 8 + (i - 8) = i by omega]

/-- R35: writing a byte to F keeps the high nibble. -/
theorem Flags.toByte_ofByte (v : Byte) : (Flags.ofByte v).toByte = v &&& 0xF0 := by revert v; decide

/-- F is its four flags. -/
theorem Flags.ofByte_toByte (f : Flags) : Flags.ofByte f.toByte = f := by cases f with | mk z n h c => revert z n h c; decide

/-- R34: the low nibble of F reads as zero. -/
theorem Flags.toByte_low_nibble (f : Flags) : f.toByte &&& 0x0F = 0 := by cases f with | mk z n h c => revert z n h c; decide

theorem word_add_one_ne (a : Word) : a + 1 ≠ a := by
  intro h; have := congrArg BitVec.toNat h; simp [BitVec.toNat_add] at this; omega

/-- On the reference bus a write of one byte stores that byte and nothing else (R84). -/
theorem storesByte_write8 {s : State} (h : s.flat) (a : Word) (v : Byte) : StoresByte s (s.write8 a v) a v :=
  ⟨by rw [State.write8, State.peek_writeAs_of_flat h, if_pos rfl],
    fun x hx => by rw [State.write8, State.peek_writeAs_of_flat h, if_neg hx]⟩

/-- On the reference bus a read and then a write of one byte store that byte and nothing else (R84). -/
theorem storesByte_afterRead_write8 {s : State} (h : s.flat) (b a : Word) (v : Byte) :
    StoresByte s ((s.afterRead b).write8 a v) a v := by
  obtain ⟨h1, h2⟩ := storesByte_write8 (s := s.afterRead b) h a v
  exact ⟨h1, fun x hx => (h2 x hx).trans (State.peek_afterRead_of_flat h b x)⟩

/-- On the reference bus a write of two bytes, low byte first, stores that word and nothing else (R72, R84). -/
theorem storesWord_write16 {s : State} (h : s.flat) (a v : Word) : StoresWord s (s.write16 a v) a v := by
  have w : ∀ x, (s.write16 a v).peek x = if x = a + 1 then highByte v else if x = a then lowByte v else s.peek x :=
    fun x => by
      rw [State.write16, State.write8, State.write8, State.peek_writeAs_of_flat (by exact h),
        State.peek_writeAs_of_flat h]
  exact ⟨by rw [w, if_neg (Ne.symm (word_add_one_ne a)), if_pos rfl], by rw [w, if_pos rfl],
    fun x h1 h2 => by rw [w, if_neg h2, if_neg h1]⟩

/-- What a state holds outside the bus and the parameters plays no part in what is stored. -/
theorem StoresByte.congr {s t u : State} {a : Word} {v : Byte} (h : StoresByte s t a v) (hm : u.mem = t.mem)
    (hc : u.config = t.config) : StoresByte s u a v :=
  ⟨(State.peek_congr hm hc a).trans h.1, fun x hx => (State.peek_congr hm hc x).trans (h.2 x hx)⟩

/-- The same for a word. -/
theorem StoresWord.congr {s t u : State} {a v : Word} (h : StoresWord s t a v) (hm : u.mem = t.mem)
    (hc : u.config = t.config) : StoresWord s u a v :=
  ⟨(State.peek_congr hm hc _).trans h.1, (State.peek_congr hm hc _).trans h.2.1,
    fun x h1 h2 => (State.peek_congr hm hc x).trans (h.2.2 x h1 h2)⟩

/-- On the reference bus what a push stores: the word at the new SP (R300). -/
theorem storesWord_push16 {s : State} (h : s.flat) (v : Word) : StoresWord s (s.push16 v) (s.sp - 2) v :=
  let w := storesWord_write16 (s := { s with sp := s.sp - 2 }) h (s.sp - 2) v
  ⟨w.1, w.2.1, w.2.2⟩

/-- On the reference bus a word is read back as its two bytes. -/
theorem State.peek16_of_flat {s : State} (h : s.flat) (a : Word) : s.peek16 a = concat16 (s.peek (a + 1)) (s.peek a) := by
  rw [State.peek16, State.peek_afterRead_of_flat h]

/-- R301: on the reference bus what was pushed is what is popped. -/
theorem State.popValue_push16 {s : State} (hf : s.flat) (v : Word) : (s.push16 v).popValue = v := by
  have h := storesWord_push16 hf v
  rw [State.popValue, State.peek16_of_flat (by exact hf)]
  show concat16 ((s.push16 v).peek (s.sp - 2 + 1)) ((s.push16 v).peek (s.sp - 2)) = v
  rw [h.1, h.2.1, concat16_high_low]

/-- What no instruction changes. -/
structure Kept (s t : State) : Prop where
  config : t.config = s.config
  divAcc : t.divAcc = s.divAcc
  timaAcc : t.timaAcc = s.timaAcc
  opAddr : t.opAddr = s.opAddr
  memory : BusOk s.config.bus s.mem → BusOk t.config.bus t.mem
  outcome : ∃ n, t.outcome = some (.executed n)

/-- What only the system instructions change. -/
structure ControlKept (s t : State) : Prop where
  ime : t.ime = s.ime
  eiPending : t.eiPending = s.eiPending
  halted : t.halted = s.halted
  stopped : t.stopped = s.stopped
  haltBugArmed : t.haltBugArmed = s.haltBugArmed
  fault : t.fault = s.fault

/-- The system instructions. -/
def Instr.isControl (i : Instr) : Prop :=
  i = .di ∨ i = .ei ∨ i = .reti ∨ i = .halt ∨ (∃ v, i = .stop v) ∨ ∃ k, i = Instr.illegal k


/-- What one instruction can do to the state outside the registers and flags. -/
def Fits (i : Instr) (s : State) : Prop := ∃ t, exec i s = .next t ∧ Kept s t ∧ (Instr.isControl i ∨ ControlKept s t)

/-- For a row outside the system instructions. -/
theorem Fits.plain {i : Instr} {s t : State} (h : exec i s = .next t) (hk : Kept s t) (hc : ControlKept s t) : Fits i s :=
  ⟨t, h, hk, .inr hc⟩

theorem fits_alu (op : AluOp) (o : Opnd8) (s : State) : Fits (.alu op o) s := by
  rcases o with r | _
  · exact .plain (exec_alu ..) ⟨rfl, rfl, rfl, rfl, id, _, rfl⟩ ⟨rfl, rfl, rfl, rfl, rfl, rfl⟩
  · exact .plain (exec_alu ..) ⟨rfl, rfl, rfl, rfl, BusOk.read _, _, rfl⟩ ⟨rfl, rfl, rfl, rfl, rfl, rfl⟩

theorem fits_aluImm (op : AluOp) (v : Byte) (s : State) : Fits (.aluImm op v) s := by
  exact .plain (exec_aluImm ..) ⟨rfl, rfl, rfl, rfl, id, _, rfl⟩ ⟨rfl, rfl, rfl, rfl, rfl, rfl⟩

theorem fits_inc8 (o : Opnd8) (s : State) : Fits (.inc8 o) s := by
  rcases o with r | _
  · cases r <;> exact .plain (exec_inc8 ..) ⟨rfl, rfl, rfl, rfl, id, _, rfl⟩ ⟨rfl, rfl, rfl, rfl, rfl, rfl⟩
  · exact .plain (exec_inc8 ..) ⟨rfl, rfl, rfl, rfl, BusOk.read_write _ _ _ _, _, rfl⟩ ⟨rfl, rfl, rfl, rfl, rfl, rfl⟩

theorem fits_dec8 (o : Opnd8) (s : State) : Fits (.dec8 o) s := by
  rcases o with r | _
  · cases r <;> exact .plain (exec_dec8 ..) ⟨rfl, rfl, rfl, rfl, id, _, rfl⟩ ⟨rfl, rfl, rfl, rfl, rfl, rfl⟩
  · exact .plain (exec_dec8 ..) ⟨rfl, rfl, rfl, rfl, BusOk.read_write _ _ _ _, _, rfl⟩ ⟨rfl, rfl, rfl, rfl, rfl, rfl⟩

theorem fits_ldReg (dst r : Reg8) (s : State) : Fits (.ld8 (.reg dst) (.reg r)) s := by
  cases dst <;> exact .plain (exec_ld8_reg_reg ..) ⟨rfl, rfl, rfl, rfl, id, _, rfl⟩ ⟨rfl, rfl, rfl, rfl, rfl, rfl⟩

theorem fits_ldFromHl (dst : Reg8) (s : State) : Fits (.ld8 (.reg dst) .atHl) s := by
  cases dst <;> exact .plain (exec_ld8_reg_hl ..) ⟨rfl, rfl, rfl, rfl, BusOk.read _, _, rfl⟩ ⟨rfl, rfl, rfl, rfl, rfl, rfl⟩

theorem fits_ldToHl (r : Reg8) (s : State) : Fits (.ld8 .atHl (.reg r)) s := by
  exact .plain (exec_ld8_hl_reg ..) ⟨rfl, rfl, rfl, rfl, BusOk.write _ _ _, _, rfl⟩ ⟨rfl, rfl, rfl, rfl, rfl, rfl⟩

theorem fits_ld8ImmReg (dst : Reg8) (v : Byte) (s : State) : Fits (.ld8Imm (.reg dst) v) s := by
  cases dst <;> exact .plain (exec_ld8Imm_reg ..) ⟨rfl, rfl, rfl, rfl, id, _, rfl⟩ ⟨rfl, rfl, rfl, rfl, rfl, rfl⟩

theorem fits_ldPair (p : Pair1) (v : Word) (s : State) : Fits (.ldPair p v) s := by
  cases p <;> exact .plain (exec_ldPair ..) ⟨rfl, rfl, rfl, rfl, id, _, rfl⟩ ⟨rfl, rfl, rfl, rfl, rfl, rfl⟩

theorem fits_addHl (p : Pair1) (s : State) : Fits (.addHl p) s := by
  exact .plain (exec_addHl ..) ⟨rfl, rfl, rfl, rfl, id, _, rfl⟩ ⟨rfl, rfl, rfl, rfl, rfl, rfl⟩

theorem fits_incPair (p : Pair1) (s : State) : Fits (.incPair p) s := by
  cases p <;> exact .plain (exec_incPair ..) ⟨rfl, rfl, rfl, rfl, id, _, rfl⟩ ⟨rfl, rfl, rfl, rfl, rfl, rfl⟩

theorem fits_decPair (p : Pair1) (s : State) : Fits (.decPair p) s := by
  cases p <;> exact .plain (exec_decPair ..) ⟨rfl, rfl, rfl, rfl, id, _, rfl⟩ ⟨rfl, rfl, rfl, rfl, rfl, rfl⟩

theorem fits_push (p : Pair2) (s : State) : Fits (.push p) s := by
  exact .plain (exec_push ..) ⟨rfl, rfl, rfl, rfl, BusOk.write_write _ _ _ _ _ _, _, rfl⟩ ⟨rfl, rfl, rfl, rfl, rfl, rfl⟩

theorem fits_pop (p : Pair2) (s : State) : Fits (.pop p) s := by
  refine .plain (t := { s.afterPop.setPair2 p s.popValue with outcome := some (.executed 3) }) (exec_pop ..) ?_ ?_
  · rw [State.setPair2_frame]
    exact ⟨rfl, rfl, rfl, rfl, fun h => h.read_read s.sp (s.sp + 1), 3, rfl⟩
  · rw [State.setPair2_frame]
    exact ⟨rfl, rfl, rfl, rfl, rfl, rfl⟩

theorem fits_jpCc (cc : Cond) (v : Word) (s : State) : Fits (.jpCc cc v) s := by
  by_cases h : condHolds cc s.f = true
  · exact .plain ((exec_jpCc ..).trans (if_pos h)) ⟨rfl, rfl, rfl, rfl, id, _, rfl⟩ ⟨rfl, rfl, rfl, rfl, rfl, rfl⟩
  · exact .plain ((exec_jpCc ..).trans (if_neg h)) ⟨rfl, rfl, rfl, rfl, id, _, rfl⟩ ⟨rfl, rfl, rfl, rfl, rfl, rfl⟩

theorem fits_jrCc (cc : Cond) (v : Byte) (s : State) : Fits (.jrCc cc v) s := by
  by_cases h : condHolds cc s.f = true
  · exact .plain ((exec_jrCc ..).trans (if_pos h)) ⟨rfl, rfl, rfl, rfl, id, _, rfl⟩ ⟨rfl, rfl, rfl, rfl, rfl, rfl⟩
  · exact .plain ((exec_jrCc ..).trans (if_neg h)) ⟨rfl, rfl, rfl, rfl, id, _, rfl⟩ ⟨rfl, rfl, rfl, rfl, rfl, rfl⟩

theorem fits_callCc (cc : Cond) (v : Word) (s : State) : Fits (.callCc cc v) s := by
  by_cases h : condHolds cc s.f = true
  · exact .plain ((exec_callCc ..).trans (if_pos h)) ⟨rfl, rfl, rfl, rfl, BusOk.write_write _ _ _ _ _ _, _, rfl⟩ ⟨rfl, rfl, rfl, rfl, rfl, rfl⟩
  · exact .plain ((exec_callCc ..).trans (if_neg h)) ⟨rfl, rfl, rfl, rfl, id, _, rfl⟩ ⟨rfl, rfl, rfl, rfl, rfl, rfl⟩

theorem fits_retCc (cc : Cond) (s : State) : Fits (.retCc cc) s := by
  by_cases h : condHolds cc s.f = true
  · exact .plain ((exec_retCc ..).trans (if_pos h)) ⟨rfl, rfl, rfl, rfl, BusOk.read_read _ _, _, rfl⟩ ⟨rfl, rfl, rfl, rfl, rfl, rfl⟩
  · exact .plain ((exec_retCc ..).trans (if_neg h)) ⟨rfl, rfl, rfl, rfl, id, _, rfl⟩ ⟨rfl, rfl, rfl, rfl, rfl, rfl⟩

theorem fits_rst (t : RstVec) (s : State) : Fits (.rst t) s := by
  exact .plain (exec_rst ..) ⟨rfl, rfl, rfl, rfl, BusOk.write_write _ _ _ _ _ _, _, rfl⟩ ⟨rfl, rfl, rfl, rfl, rfl, rfl⟩

theorem fits_illegal (k : IllegalSlot) (s : State) : Fits (.illegal k) s := by
  refine ⟨_, exec_illegal k s, ?_, .inl (.inr (.inr (.inr (.inr (.inr ⟨k, rfl⟩)))))⟩
  split <;> exact ⟨rfl, rfl, rfl, rfl, id, _, rfl⟩

theorem fits_rot (op : RotOp) (o : Opnd8) (s : State) : Fits (.rot op o) s := by
  rcases o with r | _
  · cases r <;> exact .plain (exec_rot ..) ⟨rfl, rfl, rfl, rfl, id, _, rfl⟩ ⟨rfl, rfl, rfl, rfl, rfl, rfl⟩
  · exact .plain (exec_rot ..) ⟨rfl, rfl, rfl, rfl, BusOk.read_write _ _ _ _, _, rfl⟩ ⟨rfl, rfl, rfl, rfl, rfl, rfl⟩

theorem fits_bit (b : BitNo) (o : Opnd8) (s : State) : Fits (.bit b o) s := by
  rcases o with r | _
  · exact .plain (exec_bit ..) ⟨rfl, rfl, rfl, rfl, id, _, rfl⟩ ⟨rfl, rfl, rfl, rfl, rfl, rfl⟩
  · exact .plain (exec_bit ..) ⟨rfl, rfl, rfl, rfl, BusOk.read _, _, rfl⟩ ⟨rfl, rfl, rfl, rfl, rfl, rfl⟩

theorem fits_res (b : BitNo) (o : Opnd8) (s : State) : Fits (.res b o) s := by
  rcases o with r | _
  · cases r <;> exact .plain (exec_res ..) ⟨rfl, rfl, rfl, rfl, id, _, rfl⟩ ⟨rfl, rfl, rfl, rfl, rfl, rfl⟩
  · exact .plain (exec_res ..) ⟨rfl, rfl, rfl, rfl, BusOk.read_write _ _ _ _, _, rfl⟩ ⟨rfl, rfl, rfl, rfl, rfl, rfl⟩

theorem fits_set (b : BitNo) (o : Opnd8) (s : State) : Fits (.set b o) s := by
  rcases o with r | _
  · cases r <;> exact .plain (exec_set ..) ⟨rfl, rfl, rfl, rfl, id, _, rfl⟩ ⟨rfl, rfl, rfl, rfl, rfl, rfl⟩
  · exact .plain (exec_set ..) ⟨rfl, rfl, rfl, rfl, BusOk.read_write _ _ _ _, _, rfl⟩ ⟨rfl, rfl, rfl, rfl, rfl, rfl⟩

theorem fits_halt  (s : State) : Fits (.halt) s := by
  show ∃ t, execHalt s = _ ∧ _
  unfold execHalt
  split
  · split <;> exact ⟨_, rfl, ⟨rfl, rfl, rfl, rfl, BusOk.read_read _ _, _, rfl⟩, .inl (.inr (.inr (.inr (.inl rfl))))⟩
  · exact ⟨_, rfl, ⟨rfl, rfl, rfl, rfl, id, _, rfl⟩, .inl (.inr (.inr (.inr (.inl rfl))))⟩

/-- Every instruction completes, and leaves alone what no instruction changes. -/
theorem exec_fits (i : Instr) (s : State) : Fits i s := by
  have main : ∀ (i : Instr), (∀ x, i ≠ .prefixCb x) → Fits i s := by
    intro i hp
    cases i using Instr.by_rows with
    | alu op o => exact fits_alu op o s
    | aluImm op v => exact fits_aluImm op v s
    | inc8 o => exact fits_inc8 o s
    | dec8 o => exact fits_dec8 o s
    | ldReg dst r => exact fits_ldReg dst r s
    | ldFromHl dst => exact fits_ldFromHl dst s
    | ldToHl r => exact fits_ldToHl r s
    | ld8ImmReg dst v => exact fits_ld8ImmReg dst v s
    | ldPair p v => exact fits_ldPair p v s
    | addHl p => exact fits_addHl p s
    | incPair p => exact fits_incPair p s
    | decPair p => exact fits_decPair p s
    | push p => exact fits_push p s
    | pop p => exact fits_pop p s
    | jpCc cc v => exact fits_jpCc cc v s
    | jrCc cc v => exact fits_jrCc cc v s
    | callCc cc v => exact fits_callCc cc v s
    | retCc cc => exact fits_retCc cc s
    | rst t => exact fits_rst t s
    | illegal k => exact fits_illegal k s
    | rot op o => exact fits_rot op o s
    | bit b o => exact fits_bit b o s
    | res b o => exact fits_res b o s
    | set b o => exact fits_set b o s
    | prefixCb v => exact absurd rfl (hp v)
    | halt => exact fits_halt  s
    | di => exact ⟨_, rfl, ⟨rfl, rfl, rfl, rfl, id, _, rfl⟩, .inl (.inl rfl)⟩
    | ei => exact ⟨_, rfl, ⟨rfl, rfl, rfl, rfl, id, _, rfl⟩, .inl (.inr (.inl rfl))⟩
    | reti => exact ⟨_, rfl, ⟨rfl, rfl, rfl, rfl, BusOk.read_read _ _, _, rfl⟩, .inl (.inr (.inr (.inl rfl)))⟩
    | stop v => exact ⟨_, rfl, ⟨rfl, rfl, rfl, rfl, id, _, rfl⟩, .inl (.inr (.inr (.inr (.inr (.inl ⟨v, rfl⟩)))))⟩
    | ldAtA16Sp v => exact .plain rfl ⟨rfl, rfl, rfl, rfl, BusOk.write_write _ _ _ _ _ _, _, rfl⟩ ⟨rfl, rfl, rfl, rfl, rfl, rfl⟩
    | callA16 v => exact .plain rfl ⟨rfl, rfl, rfl, rfl, BusOk.write_write _ _ _ _ _ _, _, rfl⟩ ⟨rfl, rfl, rfl, rfl, rfl, rfl⟩
    | ldAtHlD8 v => exact .plain rfl ⟨rfl, rfl, rfl, rfl, BusOk.write _ _ _, _, rfl⟩ ⟨rfl, rfl, rfl, rfl, rfl, rfl⟩
    | ldhAtA8A v => exact .plain rfl ⟨rfl, rfl, rfl, rfl, BusOk.write _ _ _, _, rfl⟩ ⟨rfl, rfl, rfl, rfl, rfl, rfl⟩
    | ldAtA16A v => exact .plain rfl ⟨rfl, rfl, rfl, rfl, BusOk.write _ _ _, _, rfl⟩ ⟨rfl, rfl, rfl, rfl, rfl, rfl⟩
    | ldAtBcA => exact .plain rfl ⟨rfl, rfl, rfl, rfl, BusOk.write _ _ _, _, rfl⟩ ⟨rfl, rfl, rfl, rfl, rfl, rfl⟩
    | ldAtDeA => exact .plain rfl ⟨rfl, rfl, rfl, rfl, BusOk.write _ _ _, _, rfl⟩ ⟨rfl, rfl, rfl, rfl, rfl, rfl⟩
    | ldAtHliA => exact .plain rfl ⟨rfl, rfl, rfl, rfl, BusOk.write _ _ _, _, rfl⟩ ⟨rfl, rfl, rfl, rfl, rfl, rfl⟩
    | ldAtHldA => exact .plain rfl ⟨rfl, rfl, rfl, rfl, BusOk.write _ _ _, _, rfl⟩ ⟨rfl, rfl, rfl, rfl, rfl, rfl⟩
    | ldAtCA => exact .plain rfl ⟨rfl, rfl, rfl, rfl, BusOk.write _ _ _, _, rfl⟩ ⟨rfl, rfl, rfl, rfl, rfl, rfl⟩
    | ret => exact .plain rfl ⟨rfl, rfl, rfl, rfl, BusOk.read_read _ _, _, rfl⟩ ⟨rfl, rfl, rfl, rfl, rfl, rfl⟩
    | ldAAtBc => exact .plain rfl ⟨rfl, rfl, rfl, rfl, BusOk.read _, _, rfl⟩ ⟨rfl, rfl, rfl, rfl, rfl, rfl⟩
    | ldAAtDe => exact .plain rfl ⟨rfl, rfl, rfl, rfl, BusOk.read _, _, rfl⟩ ⟨rfl, rfl, rfl, rfl, rfl, rfl⟩
    | ldAAtHli => exact .plain rfl ⟨rfl, rfl, rfl, rfl, BusOk.read _, _, rfl⟩ ⟨rfl, rfl, rfl, rfl, rfl, rfl⟩
    | ldAAtHld => exact .plain rfl ⟨rfl, rfl, rfl, rfl, BusOk.read _, _, rfl⟩ ⟨rfl, rfl, rfl, rfl, rfl, rfl⟩
    | ldAAtC => exact .plain rfl ⟨rfl, rfl, rfl, rfl, BusOk.read _, _, rfl⟩ ⟨rfl, rfl, rfl, rfl, rfl, rfl⟩
    | ldAAtA16 v => exact .plain rfl ⟨rfl, rfl, rfl, rfl, BusOk.read _, _, rfl⟩ ⟨rfl, rfl, rfl, rfl, rfl, rfl⟩
    | ldhAAtA8 v => exact .plain rfl ⟨rfl, rfl, rfl, rfl, BusOk.read _, _, rfl⟩ ⟨rfl, rfl, rfl, rfl, rfl, rfl⟩
    | _ => exact .plain rfl ⟨rfl, rfl, rfl, rfl, id, _, rfl⟩ ⟨rfl, rfl, rfl, rfl, rfl, rfl⟩
  by_cases hp : ∃ x, i = .prefixCb x
  · obtain ⟨x, rfl⟩ := hp
    have hc : ∀ op2 : Byte, ∀ b : Bool, b = (cbEntry op2).wellFormed → b = true := by decide +kernel
    have hn : ∀ y, cbEntry x ≠ .prefixCb y := fun y e => by
      have := hc x _ rfl; rw [e] at this; exact absurd this (by simp [Instr.wellFormed])
    obtain ⟨t, h, hk, hcon⟩ := main (cbEntry x) hn
    refine ⟨t, (exec_prefixCb x s).trans h, hk, ?_⟩
    rcases hcon with hcon | hcon
    · exfalso
      have key : ∀ op2 : Byte, (encode (cbEntry op2)).headD 0 = 0xCB := by decide +kernel
      have := key x
      rcases hcon with e | e | e | e | ⟨v, e⟩ | ⟨k, e⟩ <;> rw [e] at this
      · revert this; decide
      · revert this; decide
      · revert this; decide
      · revert this; decide
      · exact absurd (show (0x10 : Byte) = 0xCB from this) (by decide)
      · cases k <;> exact absurd this (by decide)
    · exact .inr hcon
  · exact main i fun x e => hp ⟨x, e⟩

end Sys2Proof.Machine
end

