-- ==== Sys2Proof/Laws/Control.lean ====
section
/-! SUPPORT. What each instruction does to IME, `ei_pending`, `halted`, `stopped`, the halt bug and the fault. -/

namespace Sys2Proof.Machine

/-- What an instruction can do to the control state: each field is kept, or changed by the named instruction. -/
structure Ctl (i : Instr) (s u : State) : Prop where
  ime : u.ime = s.ime ∨ (i = .di ∧ u.ime = false) ∨ (i = .reti ∧ u.ime = true)
  eip : u.eiPending = s.eiPending ∨ (i = .di ∧ u.eiPending = false) ∨ (i = .ei ∧ u.eiPending = true)
  halted : u.halted = s.halted ∨ (i = .halt ∧ u.ime = s.ime ∧ u.eiPending = s.eiPending ∧ u.stopped = s.stopped ∧
    u.halted = true ∧ u.haltBugArmed = s.haltBugArmed)
  stopped : u.stopped = s.stopped ∨ ((∃ v, i = .stop v) ∧ u.halted = s.halted ∧ u.stopped = true ∧
    u.haltBugArmed = s.haltBugArmed)
  armed : u.haltBugArmed = s.haltBugArmed ∨ (i = .halt ∧ s.config.haltBug = true ∧ s.ime = false ∧ u.ime = false ∧
    u.eiPending = s.eiPending ∧ u.halted = s.halted ∧ u.stopped = s.stopped)
  fault : u.fault = s.fault ∨ (∃ k, i = Instr.illegal k ∧ s.fault = none ∧ u.fault = some ⟨s.opAddr, illegalByte k⟩)

/-- What every instruction does to the fields that only system instructions change. -/
theorem exec_ctl {i : Instr} {s u : State} (h : exec i s = .next u) : Kept s u ∧ Ctl i s u := by
  obtain ⟨t, e, hk, hc⟩ := exec_fits i s
  rw [h] at e; injection e with e; subst e
  refine ⟨hk, ?_⟩
  rcases hc with hc | hc
  · rcases hc with rfl | rfl | rfl | rfl | ⟨v, rfl⟩ | ⟨k, rfl⟩
    · injection h with h; subst h
      exact ⟨.inr (.inl ⟨rfl, rfl⟩), .inr (.inl ⟨rfl, rfl⟩), .inl rfl, .inl rfl, .inl rfl, .inl rfl⟩
    · injection h with h; subst h
      exact ⟨.inl rfl, .inr (.inr ⟨rfl, rfl⟩), .inl rfl, .inl rfl, .inl rfl, .inl rfl⟩
    · injection h with h; subst h
      exact ⟨.inr (.inr ⟨rfl, rfl⟩), .inl rfl, .inl rfl, .inl rfl, .inl rfl, .inl rfl⟩
    · change execHalt s = _ at h
      unfold execHalt at h
      by_cases hb : (s.config.haltBug && !s.ime) = true
      · have hb' : s.config.haltBug = true ∧ s.ime = false := by simpa using hb
        rw [if_pos hb] at h
        by_cases hp : s.pending ≠ 0
        · rw [if_pos hp] at h
          injection h with h; subst h
          exact ⟨.inl rfl, .inl rfl, .inl rfl, .inl rfl, .inr ⟨rfl, hb'.1, hb'.2, hb'.2, rfl, rfl, rfl⟩, .inl rfl⟩
        · rw [if_neg hp] at h
          injection h with h; subst h
          exact ⟨.inl rfl, .inl rfl, .inr ⟨rfl, rfl, rfl, rfl, rfl, rfl⟩, .inl rfl, .inl rfl, .inl rfl⟩
      · rw [if_neg hb] at h
        injection h with h; subst h
        exact ⟨.inl rfl, .inl rfl, .inr ⟨rfl, rfl, rfl, rfl, rfl, rfl⟩, .inl rfl, .inl rfl, .inl rfl⟩
    · injection h with h; subst h
      exact ⟨.inl rfl, .inl rfl, .inl rfl, .inr ⟨⟨v, rfl⟩, rfl, rfl, rfl⟩, .inl rfl, .inl rfl⟩
    · rw [exec_illegal] at h
      injection h with h; subst h
      by_cases hf : s.fault = none
      · rw [if_pos hf]
        exact ⟨.inl rfl, .inl rfl, .inl rfl, .inl rfl, .inl rfl, .inr ⟨k, rfl, hf, rfl⟩⟩
      · rw [if_neg hf]
        exact ⟨.inl rfl, .inl rfl, .inl rfl, .inl rfl, .inl rfl, .inl rfl⟩
  · exact ⟨.inl hc.1, .inl hc.2, .inl hc.3, .inl hc.4, .inl hc.5, .inl hc.6⟩

end Sys2Proof.Machine
end

