-- ==== Sys2Proof/Laws/Flags.lean ====
section
/-! SUPPORT. The flag unit, which works on 9-bit and 17-bit vectors, equals the formulas on integers of R140, R141, R200,
R201 and R225 to R240 (Safety.lean), and what the XOR with the result means: carries and borrows. -/

namespace Sys2Proof.Machine

/-- The XOR identity of R140: bit i of `x ^ y ^ (x + y + c)` is the carry into bit i. -/
theorem xor_add_testBit (x y : Nat) (c : Bool) (i : Nat) :
    (x ^^^ y ^^^ (x + y + c.toNat)).testBit i = decide (x % 2 ^ i + y % 2 ^ i + c.toNat ≥ 2 ^ i) := by
  have h := BitVec.getLsbD_add_add_bool (w := i + 1) (i := i) (by omega)
    (BitVec.ofNat (i + 1) x) (BitVec.ofNat (i + 1) y) c
  have e : (BitVec.ofNat (i + 1) x + BitVec.ofNat (i + 1) y + BitVec.setWidth (i + 1) (BitVec.ofBool c)) =
      BitVec.ofNat (i + 1) (x + y + c.toNat) := by
    apply BitVec.eq_of_toNat_eq
    have : (BitVec.setWidth (i + 1) (BitVec.ofBool c)).toNat = c.toNat % 2 ^ (i + 1) := by
      simp [BitVec.toNat_ofBool]
    simp [BitVec.toNat_add, this]
  rw [e] at h
  simp only [BitVec.getLsbD_ofNat, Nat.lt_succ_self, decide_true, Bool.true_and, BitVec.carry,
    BitVec.toNat_ofNat] at h
  rw [Nat.mod_mod_of_dvd x ⟨2, by ring⟩, Nat.mod_mod_of_dvd y ⟨2, by ring⟩] at h
  rw [Nat.testBit_xor, Nat.testBit_xor, h]
  cases x.testBit i <;> cases y.testBit i <;> simp

/-- The 9-bit sum holds the integer sum. -/
theorem sum9_toNat (a b : Byte) (c : Bool) :
    (a.setWidth 9 + b.setWidth 9 + (BitVec.ofBool c).setWidth 9).toNat = a.toNat + b.toNat + c.toNat := by
  have hc := Bool.toNat_le c
  simp [BitVec.toNat_ofBool]
  omega

/-- R140. -/
theorem add8_eq_spec (a b : Byte) (c : Bool) : add8 a b c = specAdd8 a b c := by
  have ha : a.toNat % 512 = a.toNat := Nat.mod_eq_of_lt (by omega)
  have hb : b.toNat % 512 = b.toNat := Nat.mod_eq_of_lt (by omega)
  have hr := sum9_toNat a b c
  unfold add8 specAdd8
  simp only [AluOut.mk.injEq, Flags.mk.injEq]
  refine ⟨?_, ?_, trivial, ?_, ?_⟩
  · apply BitVec.eq_of_toNat_eq
    simp [hr, byteOf]
  · rw [Bool.eq_iff_iff]
    simp only [beq_iff_eq, decide_eq_true_eq]
    rw [← BitVec.toNat_inj]
    simp [hr]
  all_goals simp [BitVec.getLsbD, hr, ha, hb]

/-- H of `add8` is the carry out of bit 3. -/
theorem specAdd8_h (a b : Byte) (c : Bool) :
    (specAdd8 a b c).flags.h = decide (a.toNat % 16 + b.toNat % 16 + c.toNat > 15) := by
  simp only [specAdd8, xor_add_testBit]
  congr 1

/-- C of `add8` is the carry out of bit 7. -/
theorem specAdd8_c (a b : Byte) (c : Bool) :
    (specAdd8 a b c).flags.c = decide (a.toNat + b.toNat + c.toNat > 255) := by
  simp only [specAdd8, xor_add_testBit]
  rw [decide_eq_decide]; omega

/-- The 9-bit difference is the integer difference modulo 512. -/
theorem diff9_toNat (a b : Byte) (c : Bool) :
    (a.setWidth 9 - b.setWidth 9 - (BitVec.ofBool c).setWidth 9).toNat =
      (((a.toNat : Int) - b.toNat - c.toNat) % 512).toNat := by
  have hc := Bool.toNat_le c
  have h1 : (BitVec.setWidth 9 (BitVec.ofBool c)).toNat = c.toNat := by
    simp [BitVec.toNat_ofBool]; omega
  simp only [BitVec.toNat_sub, h1, BitVec.toNat_setWidth]
  omega

/-- R141. -/
theorem sub8_eq_spec (a b : Byte) (c : Bool) : sub8 a b c = specSub8 a b c := by
  have ha : a.toNat % 512 = a.toNat := Nat.mod_eq_of_lt (by omega)
  have hb : b.toNat % 512 = b.toNat := Nat.mod_eq_of_lt (by omega)
  have hr := diff9_toNat a b c
  have hlt : ∀ i, i < 9 → ((a.toNat ^^^ b.toNat ^^^ (((a.toNat : Int) - b.toNat - c.toNat) % 512).toNat) % 512).testBit i
     = (a.toNat ^^^ b.toNat ^^^ (((a.toNat : Int) - b.toNat - c.toNat) % 512).toNat).testBit i := by
    intro i hi
    rw [show 512 = 2 ^ 9 from rfl, Nat.testBit_mod_two_pow]; simp [hi]
  unfold sub8 specSub8
  simp only [AluOut.mk.injEq, Flags.mk.injEq]
  refine ⟨?_, ?_, trivial, ?_, ?_⟩
  · apply BitVec.eq_of_toNat_eq
    rw [BitVec.toNat_setWidth, hr]
    simp only [byteOf, BitVec.toNat_ofNat]
    omega
  · rw [Bool.eq_iff_iff]
    simp only [beq_iff_eq, decide_eq_true_eq]
    rw [← BitVec.toNat_inj, BitVec.toNat_setWidth, hr]
    show _ = 0 ↔ _
    omega
  · rw [hlt 4 (by omega)]; simp [BitVec.getLsbD, hr, ha, hb]
  · rw [hlt 8 (by omega)]; simp [BitVec.getLsbD, hr, ha, hb]

/-- The XOR identity for a difference: bit i is the borrow into bit i. -/
theorem xor_sub_testBit (a b : Byte) (c : Bool) (i : Nat) (hi : i < 9) :
    ((a.toNat ^^^ b.toNat ^^^ (((a.toNat : Int) - b.toNat - c.toNat) % 512).toNat) % 512).testBit i =
      decide ((((a.toNat : Int) - b.toNat - c.toNat) % 512).toNat % 2 ^ i + b.toNat % 2 ^ i + c.toNat ≥ 2 ^ i) := by
  have hc := Bool.toNat_le c
  generalize hrr : (((a.toNat : Int) - b.toNat - c.toNat) % 512).toNat = r
  have h := xor_add_testBit r b.toNat c i
  rw [← h, show 512 = 2 ^ 9 from rfl, Nat.testBit_mod_two_pow]
  have hm : (r + b.toNat + c.toNat) % 512 = a.toNat := by omega
  have ht : a.toNat.testBit i = (r + b.toNat + c.toNat).testBit i := by
    rw [← hm, show 512 = 2 ^ 9 from rfl, Nat.testBit_mod_two_pow]; simp [hi]
  simp only [Nat.testBit_xor, ht, hi, decide_true, Bool.true_and]
  cases r.testBit i <;> cases b.toNat.testBit i <;> simp

/-- H of `sub8` is the borrow from bit 4. -/
theorem specSub8_h (a b : Byte) (c : Bool) :
    (specSub8 a b c).flags.h = decide (a.toNat % 16 < b.toNat % 16 + c.toNat) := by
  have hc := Bool.toNat_le c
  show Nat.testBit _ 4 = _
  rw [xor_sub_testBit _ _ _ _ (by omega), decide_eq_decide]
  omega

/-- C of `sub8` is the borrow from bit 8. -/
theorem specSub8_c (a b : Byte) (c : Bool) :
    (specSub8 a b c).flags.c = decide (a.toNat < b.toNat + c.toNat) := by
  have hc := Bool.toNat_le c
  show Nat.testBit _ 8 = _
  rw [xor_sub_testBit _ _ _ _ (by omega), decide_eq_decide]
  omega

/-- R200. -/
theorem add16_eq_spec (a b : Word) : add16 a b = specAdd16 a b := by
  have ha : a.toNat % 131072 = a.toNat := Nat.mod_eq_of_lt (by omega)
  have hb : b.toNat % 131072 = b.toNat := Nat.mod_eq_of_lt (by omega)
  have hr : (a.setWidth 17 + b.setWidth 17).toNat = a.toNat + b.toNat := by simp; omega
  unfold add16 specAdd16
  simp only [Add16Out.mk.injEq]
  refine ⟨?_, ?_, ?_⟩
  · apply BitVec.eq_of_toNat_eq
    simp
  all_goals simp [BitVec.getLsbD, hr, ha, hb]

/-- `sext_16` (R12). -/
theorem sext16_toNat (d : Byte) : (sext16 d).toNat = specSext16 d := by
  revert d; decide

/-- R201. -/
theorem spPlus_eq_spec (m : AddSpFlags) (sp : Word) (d : Byte) : spPlus m sp d = specSpPlus m sp d := by
  have h := sext16_toNat d
  have ha : sp.toNat % 131072 = sp.toNat := Nat.mod_eq_of_lt (by omega)
  have hb : (sext16 d).toNat % 131072 = (sext16 d).toNat := Nat.mod_eq_of_lt (by omega)
  have hr : (sp.setWidth 17 + (sext16 d).setWidth 17).toNat = sp.toNat + (sext16 d).toNat := by simp; omega
  cases m
  all_goals
    simp only [spPlus, specSpPlus, Add16Out.mk.injEq, ← h]
    refine ⟨?_, ?_, ?_⟩
    · apply BitVec.eq_of_toNat_eq
      simp
    all_goals simp [BitVec.getLsbD, hr, ha, hb]

/-- The bit movements of R225 to R240. -/
theorem rotate_eq_spec (op : RotOp) (v : Byte) (c : Bool) : rotate op v c = specRotate op v c := by
  revert v c; cases op <;> decide

end Sys2Proof.Machine
end

