-- ==== Sys2Proof/Laws/Timer.lean ====
section
/-! SUPPORT. The timer: its operations satisfy the loops of R430, and what they leave alone. -/

namespace Sys2Proof.Machine

/-- From `s` to `t` at most memory and the record of accesses change. -/
def OnlyBus (s t : State) : Prop := t = { s with mem := t.mem, trace := t.trace }

theorem OnlyBus.refl (s : State) : OnlyBus s s := rfl

theorem OnlyBus.trans {s t u : State} (h : OnlyBus s t) (h' : OnlyBus t u) : OnlyBus s u := by
  unfold OnlyBus at *
  rw [h'] ; rw [h]

theorem afterRead_onlyBus (s : State) (a : Word) : OnlyBus s (s.afterRead a) := rfl

theorem writeAs_onlyBus (t : Bool) (s : State) (a : Word) (v : Byte) : OnlyBus s (s.writeAs t a v) := rfl

theorem timerRequest_onlyBus (s : State) : OnlyBus s s.timerRequest :=
  (afterRead_onlyBus s addrIf).trans (writeAs_onlyBus _ _ _ _)

theorem divTick_onlyBus (s : State) : OnlyBus s s.divTick :=
  (afterRead_onlyBus s addrDiv).trans (writeAs_onlyBus _ _ _ _)

/-- Accesses of the bus leave the parameters alone. -/
theorem OnlyBus.config {s t : State} (h : OnlyBus s t) : t.config = s.config := by
  unfold OnlyBus at h; rw [h]

/-- What a part of the timer does to the bus keeps its state in order. -/
def KeepsBus (s t : State) : Prop := BusOk s.config.bus s.mem → BusOk t.config.bus t.mem

/-- TIMA at 0xFF: the reload and the request (R433). -/
theorem timaTick_overflow {s : State} (h : s.peek addrTima = 0xFF) :
    s.timaTick = (((s.afterRead addrTima).afterRead addrTma).timerWrite8 addrTima
      ((s.afterRead addrTima).peek addrTma)).timerRequest :=
  if_pos h

/-- TIMA below 0xFF counts. -/
theorem timaTick_count {s : State} (h : s.peek addrTima ≠ 0xFF) :
    s.timaTick = (s.afterRead addrTima).timerWrite8 addrTima (s.peek addrTima + 1) :=
  if_neg h

theorem timaTick_onlyBus (s : State) : OnlyBus s s.timaTick := by
  by_cases h : s.peek addrTima = 0xFF
  · rw [timaTick_overflow h]
    exact (((afterRead_onlyBus s addrTima).trans (afterRead_onlyBus _ _)).trans (writeAs_onlyBus _ _ _ _)).trans
      (timerRequest_onlyBus _)
  · rw [timaTick_count h]
    exact (afterRead_onlyBus s addrTima).trans (writeAs_onlyBus _ _ _ _)

theorem divTicks_onlyBus (n : Nat) (s : State) : OnlyBus s (State.divTicks n s) := by
  induction n generalizing s with
  | zero => rfl
  | succ n ih => exact (divTick_onlyBus s).trans (ih _)

theorem timaTicks_onlyBus (n : Nat) (s : State) : OnlyBus s (State.timaTicks n s) := by
  induction n generalizing s with
  | zero => rfl
  | succ n ih => exact (timaTick_onlyBus s).trans (ih _)

/-! ### The loops of R430 -/

theorem drainDiv_done (acc : Nat) (s : State) (h : acc < 256) : State.drainDiv acc s = { s with divAcc := acc } := by
  simp only [State.drainDiv, divPeriod, Nat.div_eq_of_lt h, Nat.mod_eq_of_lt h, State.divTicks]

theorem divTick_divAcc (s : State) (n : Nat) :
    { s with divAcc := n }.divTick = { s.divTick with divAcc := n } := rfl

/-- One turn of the DIV loop. -/
theorem drainDiv_turn (acc : Nat) (s : State) (h : 256 ≤ acc) :
    State.drainDiv acc s = State.drainDiv (acc - 256) s.divTick := by
  have e1 : acc / divPeriod = (acc - 256) / divPeriod + 1 := by unfold divPeriod; omega
  have e2 : acc % divPeriod = (acc - 256) % divPeriod := by unfold divPeriod; omega
  unfold State.drainDiv
  rw [e1, e2, State.divTicks, divTick_divAcc]

theorem drainTima_done (period acc : Nat) (s : State) (h : acc < period) :
    State.drainTima period acc s = { s with timaAcc := acc } := by
  simp [State.drainTima, Nat.div_eq_of_lt h, Nat.mod_eq_of_lt h, State.timaTicks]

theorem timaTick_timaAcc (s : State) (n : Nat) :
    { s with timaAcc := n }.timaTick = { s.timaTick with timaAcc := n } := by
  by_cases h : s.peek addrTima = 0xFF
  · rw [timaTick_overflow h]
    exact timaTick_overflow (s := { s with timaAcc := n }) h
  · rw [timaTick_count h]
    exact timaTick_count (s := { s with timaAcc := n }) h

/-- One turn of the TIMA loop. -/
theorem drainTima_turn (period acc : Nat) (s : State) (hp : 0 < period) (h : period ≤ acc) :
    State.drainTima period acc s = State.drainTima period (acc - period) s.timaTick := by
  unfold State.drainTima
  have e1 : acc / period = (acc - period) / period + 1 := by
    rw [Nat.div_eq_sub_div hp h]
  have e2 : acc % period = (acc - period) % period := Nat.mod_eq_sub_mod h
  rw [e1, e2]
  show State.timaTicks _ { s with timaAcc := (acc - period) % period }.timaTick = _
  rw [timaTick_timaAcc]

theorem timaPeriod_pos (tac : Byte) : 0 < timaPeriod tac := by
  unfold timaPeriod; split <;> omega

theorem timaPeriod_le (tac : Byte) : timaPeriod tac ≤ 1024 := by
  unfold timaPeriod; split <;> omega

/-! ### What the timer leaves alone -/

/-- The timer with the TIMA half running, and with it off (R432). -/
theorem timer_on {m : Nat} {s : State} (h : ((s.drainDiv (s.divAcc + 4 * m)).peek addrTac).getLsbD 2 = true) :
    State.timer m s =
      ((s.drainDiv (s.divAcc + 4 * m)).afterRead addrTac).drainTima
        (timaPeriod ((s.drainDiv (s.divAcc + 4 * m)).peek addrTac)) ((s.drainDiv (s.divAcc + 4 * m)).timaAcc + 4 * m) :=
  if_pos h

theorem timer_off {m : Nat} {s : State} (h : ¬ ((s.drainDiv (s.divAcc + 4 * m)).peek addrTac).getLsbD 2 = true) :
    State.timer m s = (s.drainDiv (s.divAcc + 4 * m)).afterRead addrTac :=
  if_neg h

theorem drainDiv_frame (acc : Nat) (s : State) :
    s.drainDiv acc = { s with
      mem := (s.drainDiv acc).mem, divAcc := acc % 256, trace := (s.drainDiv acc).trace } :=
  divTicks_onlyBus (acc / divPeriod) { s with divAcc := acc % divPeriod }

theorem drainTima_frame (period acc : Nat) (s : State) :
    s.drainTima period acc = { s with
      mem := (s.drainTima period acc).mem, timaAcc := acc % period, trace := (s.drainTima period acc).trace } :=
  timaTicks_onlyBus (acc / period) { s with timaAcc := acc % period }

/-- The timer changes its sub-counters, memory and the record of accesses, and nothing else. -/
theorem timer_frame (m : Nat) (s : State) :
    ∃ t, State.timer m s = { s with
      mem := (State.timer m s).mem, divAcc := (s.divAcc + 4 * m) % 256, timaAcc := t
      trace := (State.timer m s).trace } ∧ (s.timaAcc < 1024 → t < 1024) := by
  by_cases h : ((s.drainDiv (s.divAcc + 4 * m)).peek addrTac).getLsbD 2 = true
  · refine ⟨((s.drainDiv (s.divAcc + 4 * m)).timaAcc + 4 * m) %
      timaPeriod ((s.drainDiv (s.divAcc + 4 * m)).peek addrTac), ?_, fun _ => Nat.lt_of_lt_of_le
      (Nat.mod_lt _ (timaPeriod_pos ((s.drainDiv (s.divAcc + 4 * m)).peek addrTac))) (timaPeriod_le _)⟩
    · rw [timer_on h, drainTima_frame]
      simp only [State.afterRead]
      rw [drainDiv_frame]
  · refine ⟨s.timaAcc, ?_, id⟩
    rw [timer_off h]
    simp only [State.afterRead]
    rw [drainDiv_frame]

/-- `div_acc` after every call (R431). -/
theorem timer_divAcc (m : Nat) (s : State) : (State.timer m s).divAcc = (s.divAcc + 4 * m) % 256 := by
  obtain ⟨t, h, -⟩ := timer_frame m s
  rw [h]

/-- `tima_acc` stays below 1024 (R46). -/
theorem timer_timaAcc_lt (m : Nat) (s : State) (h : s.timaAcc < 1024) : (State.timer m s).timaAcc < 1024 := by
  obtain ⟨t, h1, h2⟩ := timer_frame m s
  rw [h1]
  exact h2 h

theorem divTick_keepsBus (s : State) : KeepsBus s s.divTick := fun h => h.read_write true addrDiv addrDiv (s.peek addrDiv + 1)

theorem timerRequest_keepsBus (s : State) : KeepsBus s s.timerRequest := fun h => h.read_write true addrIf addrIf _

theorem timaTick_keepsBus (s : State) : KeepsBus s s.timaTick := by
  intro h
  by_cases h' : s.peek addrTima = 0xFF
  · rw [timaTick_overflow h']
    exact timerRequest_keepsBus _ ((h.read_read addrTima addrTma).write true addrTima _)
  · rw [timaTick_count h']
    exact h.read_write true addrTima addrTima (s.peek addrTima + 1)

theorem divTicks_keepsBus (n : Nat) (s : State) : KeepsBus s (State.divTicks n s) := by
  induction n generalizing s with
  | zero => exact id
  | succ n ih => exact fun h => ih _ (divTick_keepsBus s h)

theorem timaTicks_keepsBus (n : Nat) (s : State) : KeepsBus s (State.timaTicks n s) := by
  induction n generalizing s with
  | zero => exact id
  | succ n ih => exact fun h => ih _ (timaTick_keepsBus s h)

/-- The timer keeps the bus's state in order. -/
theorem timer_keepsBus (m : Nat) (s : State) : KeepsBus s (State.timer m s) := by
  intro h
  have hd := divTicks_keepsBus ((s.divAcc + 4 * m) / divPeriod) { s with divAcc := (s.divAcc + 4 * m) % divPeriod } h
  by_cases h' : ((s.drainDiv (s.divAcc + 4 * m)).peek addrTac).getLsbD 2 = true
  · rw [timer_on h']
    exact timaTicks_keepsBus _ _ (hd.read addrTac)
  · rw [timer_off h']
    exact hd.read addrTac

/-! ### What the timer writes on a bus that stores its writes as written (R76) -/

/-- One DIV increment. -/
theorem peek_divTick_of_stores {s : State} (h : StoresTimerWrites s.config.bus) :
    s.divTick.peek addrDiv = s.peek addrDiv + 1 := h _ _ _ (.inl rfl)

/-- The DIV loop counts whatever else the bus does. -/
theorem peek_divTicks_of_stores (n : Nat) {s : State} (h : StoresTimerWrites s.config.bus) :
    (State.divTicks n s).peek addrDiv = s.peek addrDiv + BitVec.ofNat 8 n := by
  induction n generalizing s with
  | zero => simp [State.divTicks]
  | succ n ih =>
    show (State.divTicks n s.divTick).peek addrDiv = _
    rw [ih (s := s.divTick) h, peek_divTick_of_stores h]
    apply BitVec.eq_of_toNat_eq; simp; omega

/-! ### What the timer writes on the reference bus -/

/-- What the DIV increments leave at every address. -/
theorem peek_divTicks (n : Nat) {s : State} (hf : s.flat) (x : Word) :
    (State.divTicks n s).peek x = if x = addrDiv then s.peek addrDiv + BitVec.ofNat 8 n else s.peek x := by
  induction n generalizing s with
  | zero => split <;> simp_all [State.divTicks]
  | succ n ih =>
    have hx : ∀ y, s.divTick.peek y = if y = addrDiv then s.peek addrDiv + 1 else s.peek y := fun y => by
      rw [State.divTick, State.timerWrite8, State.peek_writeAs_of_flat (by exact hf), State.peek_afterRead_of_flat hf]
    show (State.divTicks n s.divTick).peek x = _
    rw [ih (s := s.divTick) hf]
    by_cases h : x = addrDiv
    · rw [if_pos h, if_pos h, hx, if_pos rfl]
      apply BitVec.eq_of_toNat_eq; simp; omega
    · rw [if_neg h, if_neg h, hx, if_neg h]

/-- What one TIMA increment leaves at every address (R433). -/
theorem peek_timaTick {s : State} (hf : s.flat) (x : Word) : s.timaTick.peek x =
    if x = addrIf then (if s.peek addrTima = 0xFF then s.peek addrIf ||| 0x04 else s.peek addrIf)
    else if x = addrTima then timaNext (s.peek addrTma) (s.peek addrTima) else s.peek x := by
  by_cases h : s.peek addrTima = 0xFF
  · have ew : ∀ y, (((s.afterRead addrTima).afterRead addrTma).timerWrite8 addrTima
        ((s.afterRead addrTima).peek addrTma)).peek y = if y = addrTima then s.peek addrTma else s.peek y := fun y => by
      rw [State.timerWrite8, State.peek_writeAs_of_flat (by exact hf), State.peek_afterRead_of_flat hf,
        State.peek_afterRead_of_flat (by exact hf), State.peek_afterRead_of_flat hf]
    have hw : (((s.afterRead addrTima).afterRead addrTma).timerWrite8 addrTima
        ((s.afterRead addrTima).peek addrTma)).flat := hf
    rw [timaTick_overflow h, State.timerRequest, State.timerWrite8]
    rw [State.peek_writeAs_of_flat (by exact hf), State.peek_afterRead_of_flat hw, ew, ew]
    unfold timaNext
    rw [if_pos h, if_pos h, if_neg (show addrIf ≠ addrTima by decide)]; rfl
  · rw [timaTick_count h, State.timerWrite8, State.peek_writeAs_of_flat (by exact hf), State.peek_afterRead_of_flat hf]
    unfold timaNext
    rw [if_neg h, if_neg h]
    by_cases hx : x = addrIf
    · subst hx; rw [if_pos rfl, if_neg (by decide)]
    · rw [if_neg hx]

theorem timaNext_toNat (tma t : Byte) (h : t ≠ 0xFF) : (timaNext tma t).toNat = t.toNat + 1 := by
  revert h; unfold timaNext; intro h; rw [if_neg h]; revert h; revert t; decide

/-- What the TIMA increments leave at every address. -/
theorem peek_timaTicks (n : Nat) {s : State} (hf : s.flat) (x : Word) : (State.timaTicks n s).peek x =
    if x = addrIf then (if (s.peek addrTima).toNat + n ≥ 256 then s.peek addrIf ||| 0x04 else s.peek addrIf)
    else if x = addrTima then timaAfter (s.peek addrTma) n (s.peek addrTima) else s.peek x := by
  induction n generalizing s with
  | zero =>
    have : ¬ (s.peek addrTima).toNat + 0 ≥ 256 := by have := (s.peek addrTima).isLt; omega
    rw [if_neg this]
    by_cases hx : x = addrIf
    · subst hx; rw [if_pos rfl]; rfl
    · rw [if_neg hx]; by_cases hy : x = addrTima
      · subst hy; rw [if_pos rfl]; rfl
      · rw [if_neg hy]; rfl
  | succ n ih =>
    show (State.timaTicks n s.timaTick).peek x = _
    have hf' : s.timaTick.flat := (congrArg Config.bus (timaTick_onlyBus s).config).trans hf
    rw [ih hf', peek_timaTick hf, peek_timaTick hf, peek_timaTick hf, peek_timaTick hf]
    simp only [show addrTima ≠ addrIf by decide, show addrTma ≠ addrIf by decide, show addrTma ≠ addrTima by decide, if_true, if_false]
    by_cases hx : x = addrIf
    · rw [if_pos hx, if_pos hx]
      by_cases h : s.peek addrTima = 0xFF
      · rw [if_pos h]
        have : (s.peek addrTima).toNat + (n + 1) ≥ 256 := by rw [h]; show 255 + (n+1) ≥ 256; omega
        rw [if_pos this, BitVec.or_assoc]; split <;> rfl
      · rw [if_neg h, timaNext_toNat _ _ h]
        rw [show (s.peek addrTima).toNat + 1 + n = (s.peek addrTima).toNat + (n + 1) by omega]
    · rw [if_neg hx, if_neg hx, if_neg hx]
      by_cases hy : x = addrTima
      · rw [if_pos hy, if_pos hy]; rfl
      · rw [if_neg hy, if_neg hy]; simp [hy]

theorem peek_drainDiv (acc : Nat) {s : State} (hf : s.flat) (x : Word) : (s.drainDiv acc).peek x = if x = addrDiv then s.peek addrDiv + BitVec.ofNat 8 (acc / 256) else s.peek x :=
  peek_divTicks _ (s := { s with divAcc := acc % divPeriod }) hf x
theorem peek_drainTima (per acc : Nat) {s : State} (hf : s.flat) (x : Word) : (s.drainTima per acc).peek x =
    if x = addrIf then (if (s.peek addrTima).toNat + acc / per ≥ 256 then s.peek addrIf ||| 0x04 else s.peek addrIf)
    else if x = addrTima then timaAfter (s.peek addrTma) (acc / per) (s.peek addrTima) else s.peek x :=
  peek_timaTicks _ (s := { s with timaAcc := acc % per }) hf x

/-- What `timer(m)` leaves at every address (R430 to R433). -/
theorem timer_peek (m : Nat) {s : State} (hf : s.flat) (x : Word) : (State.timer m s).peek x =
    if x = addrDiv then s.peek addrDiv + BitVec.ofNat 8 ((s.divAcc + 4 * m) / 256)
    else if (s.peek addrTac).getLsbD 2 = true then
      (if x = addrIf then (if (s.peek addrTima).toNat + (s.timaAcc + 4 * m) / timaPeriod (s.peek addrTac) ≥ 256 then s.peek addrIf ||| 0x04 else s.peek addrIf)
    else if x = addrTima then timaAfter (s.peek addrTma) ((s.timaAcc + 4 * m) / timaPeriod (s.peek addrTac)) (s.peek addrTima) else s.peek x)
    else s.peek x := by
  have e1 : ∀ x, x ≠ addrDiv → (s.drainDiv (s.divAcc + 4 * m)).peek x = s.peek x := fun x hx => by rw [peek_drainDiv _ hf, if_neg hx]
  have hf' : (s.drainDiv (s.divAcc + 4 * m)).flat := by unfold State.flat; rw [drainDiv_frame]; exact hf
  have et : (s.drainDiv (s.divAcc + 4 * m)).timaAcc = s.timaAcc := by rw [drainDiv_frame]
  by_cases h : (s.peek addrTac).getLsbD 2 = true
  · rw [if_pos h]
    have h' : ((s.drainDiv (s.divAcc + 4 * m)).peek addrTac).getLsbD 2 = true := by rw [e1 _ (by decide)]; exact h
    rw [timer_on h', peek_drainTima _ _ (by exact hf'), et, State.peek_afterRead_of_flat hf', State.peek_afterRead_of_flat hf',
      State.peek_afterRead_of_flat hf', State.peek_afterRead_of_flat hf', e1 _ (by decide), e1 addrIf (by decide), e1 addrTma (by decide), e1 addrTac (by decide)]
    by_cases hx : x = addrDiv
    · subst hx; rw [if_pos rfl, if_neg (by decide), if_neg (by decide), peek_drainDiv _ hf, if_pos rfl]
    · rw [if_neg hx, e1 _ hx]
  · rw [if_neg h]
    have h' : ¬ ((s.drainDiv (s.divAcc + 4 * m)).peek addrTac).getLsbD 2 = true := by rw [e1 _ (by decide)]; exact h
    rw [timer_off h', State.peek_afterRead_of_flat hf', peek_drainDiv _ hf]

/-- `tima_acc` after every call. -/
theorem timer_timaAcc (m : Nat) {s : State} (hf : s.flat) : (State.timer m s).timaAcc = if (s.peek addrTac).getLsbD 2 = true then (s.timaAcc + 4 * m) % timaPeriod (s.peek addrTac) else s.timaAcc := by
  have e1 : ∀ x, x ≠ addrDiv → (s.drainDiv (s.divAcc + 4 * m)).peek x = s.peek x := fun x hx => by rw [peek_drainDiv _ hf, if_neg hx]
  have hf' : (s.drainDiv (s.divAcc + 4 * m)).flat := by unfold State.flat; rw [drainDiv_frame]; exact hf
  have et : (s.drainDiv (s.divAcc + 4 * m)).timaAcc = s.timaAcc := by rw [drainDiv_frame]
  by_cases h : (s.peek addrTac).getLsbD 2 = true
  · rw [if_pos h]
    have h' : ((s.drainDiv (s.divAcc + 4 * m)).peek addrTac).getLsbD 2 = true := by rw [e1 _ (by decide)]; exact h
    rw [timer_on h', drainTima_frame, et, e1 _ (by decide)]
  · rw [if_neg h]
    have h' : ¬ ((s.drainDiv (s.divAcc + 4 * m)).peek addrTac).getLsbD 2 = true := by rw [e1 _ (by decide)]; exact h
    rw [timer_off h']; exact et

end Sys2Proof.Machine
end

