-- ==== Sys2Proof/Laws/Step.lean ====
section
/-! SUPPORT. The step: what it can do, said once (`step_cases`), and that the decoder never rejects what was fetched. -/

namespace Sys2Proof.Machine

/-! ### Fetching and decoding -/

theorem opLength_cases : ∀ op : Byte, opLength op = 1 ∨ opLength op = 2 ∨ opLength op = 3 := by decide +kernel

theorem State.nextBytes_length (n : Nat) (s : State) : (State.nextBytes n s).length = n := by
  induction n generalizing s with
  | zero => rfl
  | succ n ih => simp [State.nextBytes, ih]

/-- What is fetched depends on the bus and PC. -/
theorem State.nextBytes_congr (n : Nat) {s t : State} (hm : s.mem = t.mem) (hc : s.config = t.config)
    (hp : s.pc = t.pc) : State.nextBytes n s = State.nextBytes n t := by
  induction n generalizing s t with
  | zero => rfl
  | succ n ih =>
    have h : State.nextBytes n s.afterByte = State.nextBytes n t.afterByte :=
      ih (by simp only [State.afterByte_mem, hm, hc, hp]) hc (show s.pc + 1 = t.pc + 1 by rw [hp])
    simp only [State.nextBytes, h, hp, State.peek_congr hm hc]

/-- The fetched bytes depend on the bus, PC and the halt bug. -/
theorem State.fetchedBytes_congr {s t : State} (hm : s.mem = t.mem) (hc : s.config = t.config) (hp : s.pc = t.pc)
    (ha : s.haltBugArmed = t.haltBugArmed) : s.fetchedBytes = t.fetchedBytes := by
  unfold State.fetchedBytes
  rw [hp, State.peek_congr hm hc t.pc]
  rw [State.nextBytes_congr _ (s := s.afterOpcode) (t := t.afterOpcode)
    (by simp only [State.afterOpcode_mem, hm, hc, hp]) hc]
  simp only [State.afterOpcode_pc, hp, ha]

/-- R117: the decoder never rejects the bytes a fetch reads, and uses them all. -/
theorem decode_fetchedBytes (s : State) : ∃ i, decode s.fetchedBytes = .ok i [] := by
  have h : s.fetchedBytes = s.peek s.pc :: State.nextBytes (opLength (s.peek s.pc) - 1) s.afterOpcode := rfl
  have hl := opLength_cases (s.peek s.pc)
  have hn := State.nextBytes_length (opLength (s.peek s.pc) - 1) s.afterOpcode
  rw [h]
  unfold decode
  simp only [hn]
  rw [if_neg (by omega), List.drop_of_length_le (by omega)]
  exact ⟨_, rfl⟩

/-- What a fetch changes: PC, the latched address, the halt bug, and what the reads do to the bus. -/
structure Fetched (s t : State) : Prop where
  regs : t = { s with mem := t.mem, pc := t.pc, opAddr := s.pc, haltBugArmed := false, trace := t.trace }
  bus : BusOk s.config.bus s.mem → BusOk t.config.bus t.mem

theorem State.afterBytes_frame (n : Nat) (s : State) :
    State.afterBytes n s = { s with
      mem := (State.afterBytes n s).mem, pc := (State.afterBytes n s).pc, trace := (State.afterBytes n s).trace } := by
  induction n generalizing s with
  | zero => rfl
  | succ n ih =>
    show State.afterBytes n s.afterByte = _
    rw [ih]
    rfl

theorem State.afterBytes_keepsBus (n : Nat) (s : State) : KeepsBus s (State.afterBytes n s) := by
  induction n generalizing s with
  | zero => exact id
  | succ n ih => exact fun h => ih s.afterByte (BusOk.read s.pc h)

theorem State.afterFetch_frame (s : State) : Fetched s s.afterFetch :=
  ⟨State.afterBytes_frame _ s.afterOpcode, fun h => State.afterBytes_keepsBus _ s.afterOpcode (BusOk.read s.pc h)⟩

/-! ### The parts of the step -/

theorem State.afterPending_eq (s : State) :
    s.afterPending = { s with mem := s.afterPending.mem, trace := s.trace ++ pendingReads s } := by
  simp [State.afterPending, State.afterRead, pendingReads, List.append_assoc]
  exact ⟨⟨rfl, rfl⟩, rfl, rfl⟩

theorem State.afterPending_keepsBus (s : State) : KeepsBus s s.afterPending := BusOk.read_read _ _

/-- What the checks of R400 parts 2 and 3 leave alone. -/
theorem State.woken_frame (s : State) :
    s.woken = { s with mem := s.woken.mem, trace := s.woken.trace, halted := false } := by
  unfold State.woken
  by_cases h : s.halted = true
  · rw [if_pos h]; rfl
  · have h' : s.halted = false := by simpa using h
    rw [if_neg h, ← h']

theorem State.checked_frame (s : State) :
    s.checked = { s with mem := s.checked.mem, trace := s.checked.trace, halted := false } := by
  unfold State.checked
  split
  · have h : s.woken.afterPending = { s.woken with
        mem := s.woken.afterPending.mem, trace := s.woken.afterPending.trace } := rfl
    generalize s.woken.afterPending = t at h ⊢
    rw [State.woken_frame] at h
    exact h
  · exact State.woken_frame s

theorem State.woken_keepsBus (s : State) : KeepsBus s s.woken := by
  unfold State.woken
  split
  · exact BusOk.read_read _ _
  · exact id

theorem State.checked_keepsBus (s : State) : KeepsBus s s.checked := by
  unfold State.checked
  split
  · exact fun h => State.afterPending_keepsBus _ (State.woken_keepsBus s h)
  · exact State.woken_keepsBus s

theorem State.finishEi_eq (b : Bool) (t : State) :
    t.finishEi b = if b && t.eiPending then { t with ime := true, eiPending := false } else t := rfl

theorem State.finishEi_outcome (b : Bool) (t : State) : (t.finishEi b).outcome = t.outcome := by
  rw [State.finishEi_eq]; split <;> rfl

theorem timer_outcome (m : Nat) (s : State) : (State.timer m s).outcome = s.outcome := by
  obtain ⟨t, h, -⟩ := timer_frame m s; rw [h]

theorem exec_next (i : Instr) (s : State) : ∃ t, exec i s = .next t := (exec_fits i s).imp fun _ h => h.1

theorem State.pending_mask (s : State) : s.pending &&& 0x1F = s.pending := by
  unfold State.pending; rw [BitVec.and_assoc]; rfl

/-- Some source is served exactly when something is pending. -/
theorem lowestIrq_pending_none (s : State) : lowestIrq s.pending = none ↔ s.pending = 0 := by
  have key : ∀ p : Byte, p &&& 0x1F = p → (lowestIrq p = none ↔ p = 0) := by decide +kernel
  exact key _ s.pending_mask

/-- R415: the lowest set bit is served. -/
theorem lowestIrq_eq (p : Byte) (k : Irq) (h1 : p.toNat.testBit k.bit = true)
    (h2 : ∀ j, j < k.bit → p.toNat.testBit j = false) : lowestIrq p = some k := by
  have g : ∀ j, p.toNat.testBit j = p.getLsbD j := fun _ => rfl
  simp only [g] at h1 h2
  unfold lowestIrq
  cases k with
  | vblank => rw [if_pos (show p.getLsbD 0 = true from h1)]
  | lcdStat => rw [if_neg (by rw [h2 0 (by decide)]; decide), if_pos (show p.getLsbD 1 = true from h1)]
  | timer => rw [if_neg (by rw [h2 0 (by decide)]; decide), if_neg (by rw [h2 1 (by decide)]; decide), if_pos (show p.getLsbD 2 = true from h1)]
  | serial => rw [if_neg (by rw [h2 0 (by decide)]; decide), if_neg (by rw [h2 1 (by decide)]; decide), if_neg (by rw [h2 2 (by decide)]; decide), if_pos (show p.getLsbD 3 = true from h1)]
  | joypad => rw [if_neg (by rw [h2 0 (by decide)]; decide), if_neg (by rw [h2 1 (by decide)]; decide), if_neg (by rw [h2 2 (by decide)]; decide), if_neg (by rw [h2 3 (by decide)]; decide), if_pos (show p.getLsbD 4 = true from h1)]

/-- Executing one instruction: the decoded one, completing, then the EI delay and the timer. -/
theorem executeOne_eq (s : State) : ∃ i u, decode s.fetchedBytes = .ok i [] ∧ exec i s.afterFetch = .next u ∧
    executeOne s = .next (u.retire s.eiPending) := by
  obtain ⟨i, hi⟩ := decode_fetchedBytes s
  obtain ⟨u, hu⟩ := exec_next i s.afterFetch
  refine ⟨i, u, hi, hu, ?_⟩
  unfold executeOne
  rw [hi]
  simp only [hu]

theorem interruptOrExecute_cases (s : State) :
    (s.ime = true ∧ s.pending ≠ 0 ∧ ∃ k, lowestIrq s.pending = some k ∧
      interruptOrExecute s = .next (dispatchStep k s.afterPending)) ∨
    ((s.ime = false ∨ s.pending = 0) ∧ interruptOrExecute s = executeOne (if s.ime then s.afterPending else s)) := by
  unfold interruptOrExecute
  by_cases h : s.ime = true
  · rw [if_pos h, if_pos h]
    by_cases hp : s.pending = 0
    · right; refine ⟨.inr hp, ?_⟩
      rw [(lowestIrq_pending_none s).2 hp]
    · left
      obtain ⟨k, hk⟩ := Option.ne_none_iff_exists'.1 (fun e => hp ((lowestIrq_pending_none s).1 e))
      exact ⟨h, hp, k, hk, by rw [hk]⟩
  · rw [if_neg h, if_neg h]
    exact .inr ⟨.inl (by simpa using h), rfl⟩

/-- Everything a step can do: stuck, idle, a dispatch, or one instruction. -/
theorem step_cases (s : State) :
    (s.isStuck = true ∧ step s = .next { s with trace := [], outcome := some .stuck }) ∨
    (s.isStuck = false ∧ s.halted = true ∧ s.pending = 0 ∧
      step s = .next (State.timer 1 { ({ s with trace := [] } : State).afterPending with outcome := some (.idle 1) })) ∨
    (s.isStuck = false ∧ (s.halted = true → s.pending ≠ 0) ∧ s.ime = true ∧ s.woken.pending ≠ 0 ∧
      ∃ k, lowestIrq s.woken.pending = some k ∧ step s = .next (dispatchStep k s.checked)) ∨
    (s.isStuck = false ∧ (s.halted = true → s.pending ≠ 0) ∧ (s.ime = false ∨ s.woken.pending = 0) ∧
      step s = executeOne s.checked) := by
  by_cases hs : s.isStuck = true
  · exact .inl ⟨hs, if_pos hs⟩
  have hs' : s.isStuck = false := by simpa using hs
  have e1 : step s = wakeOrGoOn { s with trace := [] } := if_neg hs
  have goOn : (s.halted = true → s.pending ≠ 0) → step s = interruptOrExecute s.woken := fun hw => by
    rw [e1]; unfold wakeOrGoOn State.woken
    by_cases hh : s.halted = true
    · rw [if_pos hh, if_pos (show ({ s with trace := [] } : State).halted = true from hh),
        if_neg (show ¬ State.pending { s with trace := [] } = 0 from hw hh)]
    · rw [if_neg hh, if_neg (show ¬ ({ s with trace := [] } : State).halted = true from hh)]
  have hime : s.woken.ime = s.ime := by rw [State.woken_frame]
  right
  by_cases hi : s.halted = true ∧ s.pending = 0
  · left
    refine ⟨hs', hi.1, hi.2, ?_⟩
    rw [e1]; unfold wakeOrGoOn
    rw [if_pos (show ({ s with trace := [] } : State).halted = true from hi.1),
      if_pos (show State.pending { s with trace := [] } = 0 from hi.2)]
    rfl
  · have hw : s.halted = true → s.pending ≠ 0 := fun h e => hi ⟨h, e⟩
    right
    rw [goOn hw]
    rcases interruptOrExecute_cases s.woken with ⟨h1, h2, k, h3, h4⟩ | ⟨h1, h2⟩
    · exact .inl ⟨hs', hw, hime ▸ h1, h2, k, h3, by rw [h4, State.checked, if_pos h1]⟩
    · exact .inr ⟨hs', hw, hime ▸ h1, h2⟩

/-- The outcome of a dispatch step. -/
theorem dispatchStep_outcome (k : Irq) (s : State) : (dispatchStep k s).outcome = some (.dispatch k 5) :=
  timer_outcome _ _

/-- What taking an interrupt changes. -/
theorem State.takeInterrupt_frame (k : Irq) (s : State) : s.takeInterrupt k = { s with
    mem := (s.takeInterrupt k).mem, trace := (s.takeInterrupt k).trace
    sp := s.sp - 2, pc := k.vector, ime := false, eiPending := false, haltBugArmed := false } := by
  have h : OnlyBus { s with sp := s.sp - 2, haltBugArmed := false }
      ({ s.clearRequest k with haltBugArmed := false }.push16 s.returnAddress) := rfl
  unfold State.takeInterrupt
  simp only
  generalize ({ s.clearRequest k with haltBugArmed := false } : State).push16 s.returnAddress = t at h ⊢
  rw [h]

/-- What a dispatch step changes. -/
theorem dispatchStep_frame (k : Irq) (s : State) : ∃ x, dispatchStep k s = { s with
    mem := (dispatchStep k s).mem, divAcc := (s.divAcc + 4 * 5) % 256, timaAcc := x
    trace := (dispatchStep k s).trace
    sp := s.sp - 2, pc := k.vector, ime := false, eiPending := false, haltBugArmed := false
    outcome := some (.dispatch k 5) } ∧ (s.timaAcc < 1024 → x < 1024) := by
  unfold dispatchStep
  obtain ⟨x, h, h2⟩ := timer_frame 5 { s.takeInterrupt k with outcome := some (.dispatch k 5) }
  refine ⟨x, ?_, fun hx => h2 (by rw [State.takeInterrupt_frame]; exact hx)⟩
  generalize State.timer 5 { s.takeInterrupt k with outcome := some (.dispatch k 5) } = t at h ⊢
  rw [State.takeInterrupt_frame] at h
  exact h

/-- The outcome of an instruction step. -/
theorem executeOne_outcome {s t : State} (h : executeOne s = .next t) : ∃ n, t.outcome = some (.executed n) := by
  obtain ⟨i, u, h1, h2, h3⟩ := executeOne_eq s
  rw [h3] at h; injection h with h; subst h
  obtain ⟨t', e, hk, -⟩ := exec_fits i s.afterFetch
  rw [h2] at e; injection e with e; subst e
  obtain ⟨n, hn⟩ := hk.outcome
  exact ⟨n, by rw [← hn]; exact (timer_outcome _ _).trans (State.finishEi_outcome _ _)⟩

end Sys2Proof.Machine
end

