-- ==== Sys2Proof/Laws/Own.lean ====
section
/-! SUPPORT. The model's own fields (notes/assumptions/7.md): no instruction, no part of the timer and no dispatch reads the record
of accesses or the last outcome. -/

namespace Sys2Proof.Machine

/-- `s` with accesses recorded before its own, and another `opAddr` and outcome. -/
def own (p : List BusAccess) (x : Word) (o : Option StepOutcome) (s : State) : State :=
  { s with trace := p ++ s.trace, opAddr := x, outcome := o }

theorem own_afterRead (p x o) (s : State) (a : Word) : (own p x o s).afterRead a = own p x o (s.afterRead a) := by
  simp only [own, State.afterRead, List.append_assoc]
  rfl
theorem own_writeAs (p x o) (t : Bool) (s : State) (a : Word) (v : Byte) :
    (own p x o s).writeAs t a v = own p x o (s.writeAs t a v) := by
  simp only [own, State.writeAs, List.append_assoc]
theorem own_write8 (p x o) (s : State) (a : Word) (v : Byte) : (own p x o s).write8 a v = own p x o (s.write8 a v) :=
  own_writeAs ..
theorem own_timerWrite8 (p x o) (s : State) (a : Word) (v : Byte) :
    (own p x o s).timerWrite8 a v = own p x o (s.timerWrite8 a v) := own_writeAs ..
theorem own_peek (p x o) (s : State) (a : Word) : (own p x o s).peek a = s.peek a := rfl

theorem own_divTick (p x o) (s : State) : (own p x o s).divTick = own p x o s.divTick := by
  unfold State.divTick; rw [own_peek, own_afterRead, own_timerWrite8]
theorem own_timaTick (p x o) (s : State) : (own p x o s).timaTick = own p x o s.timaTick := by
  by_cases h : s.peek addrTima = 0xFF
  · rw [timaTick_overflow h, timaTick_overflow (s := own p x o s) h]
    unfold State.timerRequest
    simp only [own_afterRead, own_timerWrite8, own_peek]
  · rw [timaTick_count h, timaTick_count (s := own p x o s) h]
    simp only [own_afterRead, own_timerWrite8, own_peek]
theorem own_divTicks (n : Nat) (p x o) (s : State) : State.divTicks n (own p x o s) = own p x o (State.divTicks n s) := by
  induction n generalizing s with
  | zero => rfl
  | succ n ih => simp only [State.divTicks, own_divTick, ih]
theorem own_timaTicks (n : Nat) (p x o) (s : State) : State.timaTicks n (own p x o s) = own p x o (State.timaTicks n s) := by
  induction n generalizing s with
  | zero => rfl
  | succ n ih => simp only [State.timaTicks, own_timaTick, ih]
theorem own_drainDiv (acc : Nat) (p x o) (s : State) : State.drainDiv acc (own p x o s) = own p x o (State.drainDiv acc s) :=
  own_divTicks _ _ _ _ { s with divAcc := acc % divPeriod }
theorem own_drainTima (per acc : Nat) (p x o) (s : State) : State.drainTima per acc (own p x o s) = own p x o (State.drainTima per acc s) :=
  own_timaTicks _ _ _ _ { s with timaAcc := acc % per }
theorem own_timer (m : Nat) (p x o) (s : State) : State.timer m (own p x o s) = own p x o (State.timer m s) := by
  have e : State.drainDiv ((own p x o s).divAcc + 4 * m) (own p x o s) = own p x o (State.drainDiv (s.divAcc + 4 * m) s) := own_drainDiv _ _ _ _ s
  by_cases h : ((s.drainDiv (s.divAcc + 4 * m)).peek addrTac).getLsbD 2 = true
  · rw [timer_on h, timer_on (by rw [e]; exact h), e, own_afterRead]
    exact own_drainTima _ _ _ _ _ _
  · rw [timer_off h, timer_off (by rw [e]; exact h), e, own_afterRead]

/-- Instruction `i` at `s` reads no own field but `opAddr`: with another record of accesses before and another outcome it
ends in the same state, its accesses after them. -/
def Indep (i : Instr) (p : List BusAccess) (o : Option StepOutcome) (s : State) : Prop :=
  ∃ u, exec i s = .next u ∧ exec i (own p s.opAddr o s) = .next (own p u.opAddr u.outcome u)

theorem next_own {t u : State} {p : List BusAccess} (h1 : t = { u with trace := t.trace }) (h2 : t.trace = p ++ u.trace) :
   (Host.Outcome.next t : Out) = .next (own p u.opAddr u.outcome u) := by
  rw [h1, h2]; rfl
theorem append_one {α} (p t a : List α) : (p ++ t) ++ a = p ++ (t ++ a) := List.append_assoc ..
theorem append_two {α} (p t a b : List α) : ((p ++ t) ++ a) ++ b = p ++ ((t ++ a) ++ b) := by simp

theorem Indep.mk {i : Instr} {p o} {s u t : State} (h : exec i s = .next u) (h' : exec i (own p s.opAddr o s) = .next t)
   (h1 : t = { u with trace := t.trace }) (h2 : t.trace = p ++ u.trace) : Indep i p o s := ⟨u, h, h'.trans (next_own h1 h2)⟩

theorem exec_indep_row (i : Instr) (p o) (s : State) (hnp : ∀ x, i ≠ .prefixCb x) : Indep i p o s := by
  cases i using Instr.by_rows with
  | alu op q =>
    rcases q with r | _
    · exact Indep.mk (exec_alu ..) (exec_alu ..) rfl rfl
    · exact Indep.mk (exec_alu ..) (exec_alu ..) rfl (append_one ..)
  | aluImm op v => exact Indep.mk (exec_aluImm ..) (exec_aluImm ..) rfl rfl
  | inc8 q =>
    rcases q with r | _
    · cases r <;> exact Indep.mk (exec_inc8 ..) (exec_inc8 ..) rfl rfl
    · exact Indep.mk (exec_inc8 ..) (exec_inc8 ..) rfl (append_two ..)
  | dec8 q =>
    rcases q with r | _
    · cases r <;> exact Indep.mk (exec_dec8 ..) (exec_dec8 ..) rfl rfl
    · exact Indep.mk (exec_dec8 ..) (exec_dec8 ..) rfl (append_two ..)
  | ldReg dst r => cases dst <;> exact Indep.mk (exec_ld8_reg_reg ..) (exec_ld8_reg_reg ..) rfl rfl
  | ldFromHl dst => cases dst <;> exact Indep.mk (exec_ld8_reg_hl ..) (exec_ld8_reg_hl ..) rfl (append_one ..)
  | ldToHl r => exact Indep.mk (exec_ld8_hl_reg ..) (exec_ld8_hl_reg ..) rfl (append_one ..)
  | ld8ImmReg dst v => cases dst <;> exact Indep.mk (exec_ld8Imm_reg ..) (exec_ld8Imm_reg ..) rfl rfl
  | ldPair q v => cases q <;> exact Indep.mk (exec_ldPair ..) (exec_ldPair ..) rfl rfl
  | addHl q => exact Indep.mk (exec_addHl ..) (exec_addHl ..) rfl rfl
  | incPair q => cases q <;> exact Indep.mk (exec_incPair ..) (exec_incPair ..) rfl rfl
  | decPair q => cases q <;> exact Indep.mk (exec_decPair ..) (exec_decPair ..) rfl rfl
  | push q => exact Indep.mk (exec_push ..) (exec_push ..) rfl (append_two ..)
  | pop q => cases q <;> exact Indep.mk (exec_pop ..) (exec_pop ..) rfl (append_two ..)
  | jpCc cc v =>
    by_cases h : condHolds cc s.f = true
    · exact Indep.mk ((exec_jpCc ..).trans (if_pos h)) ((exec_jpCc ..).trans (if_pos h)) rfl rfl
    · exact Indep.mk ((exec_jpCc ..).trans (if_neg h)) ((exec_jpCc ..).trans (if_neg h)) rfl rfl
  | jrCc cc v =>
    by_cases h : condHolds cc s.f = true
    · exact Indep.mk ((exec_jrCc ..).trans (if_pos h)) ((exec_jrCc ..).trans (if_pos h)) rfl rfl
    · exact Indep.mk ((exec_jrCc ..).trans (if_neg h)) ((exec_jrCc ..).trans (if_neg h)) rfl rfl
  | callCc cc v =>
    by_cases h : condHolds cc s.f = true
    · exact Indep.mk ((exec_callCc ..).trans (if_pos h)) ((exec_callCc ..).trans (if_pos h)) rfl (append_two ..)
    · exact Indep.mk ((exec_callCc ..).trans (if_neg h)) ((exec_callCc ..).trans (if_neg h)) rfl rfl
  | retCc cc =>
    by_cases h : condHolds cc s.f = true
    · exact Indep.mk ((exec_retCc ..).trans (if_pos h)) ((exec_retCc ..).trans (if_pos h)) rfl (append_two ..)
    · exact Indep.mk ((exec_retCc ..).trans (if_neg h)) ((exec_retCc ..).trans (if_neg h)) rfl rfl
  | rst t => exact Indep.mk (exec_rst ..) (exec_rst ..) rfl (append_two ..)
  | illegal k =>
    by_cases h : s.fault = none
    · refine Indep.mk ((exec_illegal k _).trans (congrArg (done 1) (if_pos h))) ((exec_illegal k _).trans (congrArg (done 1) (if_pos h))) rfl rfl
    · exact Indep.mk ((exec_illegal ..).trans (congrArg (done 1) (if_neg h))) ((exec_illegal ..).trans (congrArg (done 1) (if_neg h))) rfl rfl
  | rot op q =>
    rcases q with r | _
    · cases r <;> exact Indep.mk (exec_rot ..) (exec_rot ..) rfl rfl
    · exact Indep.mk (exec_rot ..) (exec_rot ..) rfl (append_two ..)
  | bit b q =>
    rcases q with r | _
    · exact Indep.mk (exec_bit ..) (exec_bit ..) rfl rfl
    · exact Indep.mk (exec_bit ..) (exec_bit ..) rfl (append_one ..)
  | res b q =>
    rcases q with r | _
    · cases r <;> exact Indep.mk (exec_res ..) (exec_res ..) rfl rfl
    · exact Indep.mk (exec_res ..) (exec_res ..) rfl (append_two ..)
  | set b q =>
    rcases q with r | _
    · cases r <;> exact Indep.mk (exec_set ..) (exec_set ..) rfl rfl
    · exact Indep.mk (exec_set ..) (exec_set ..) rfl (append_two ..)
  | prefixCb v => exact absurd rfl (hnp v)
  | halt =>
    by_cases hb : (s.config.haltBug && !s.ime) = true
    · by_cases hp : s.pending ≠ 0
      · exact Indep.mk ((if_pos hb).trans (if_pos hp)) ((if_pos hb).trans (if_pos hp)) rfl (append_two ..)
      · exact Indep.mk ((if_pos hb).trans (if_neg hp)) ((if_pos hb).trans (if_neg hp)) rfl (append_two ..)
    · exact Indep.mk (if_neg hb) (if_neg hb) rfl rfl
  | _ => first | exact Indep.mk rfl rfl rfl rfl | exact Indep.mk rfl rfl rfl (append_one ..) | exact Indep.mk rfl rfl rfl (append_two ..)

theorem exec_indep (i : Instr) (p o) (s : State) : Indep i p o s := by
  by_cases hp : ∃ x, i = .prefixCb x
  · obtain ⟨x, rfl⟩ := hp
    have hc : ∀ op2 : Byte, ∀ b : Bool, b = (cbEntry op2).wellFormed → b = true := by decide +kernel
    have hn : ∀ y, cbEntry x ≠ .prefixCb y := fun y e => by
      have := hc x _ rfl; rw [e] at this; exact absurd this (by simp [Instr.wellFormed])
    obtain ⟨u, h1, h2⟩ := exec_indep_row (cbEntry x) p o s hn
    exact ⟨u, (exec_prefixCb ..).trans h1, (exec_prefixCb ..).trans h2⟩
  · exact exec_indep_row i p o s fun x e => hp ⟨x, e⟩

theorem afterBytes_own (n : Nat) (p x o) (s : State) : State.afterBytes n (own p x o s) = own p x o (State.afterBytes n s) := by
  induction n generalizing s with
  | zero => rfl
  | succ n ih =>
    show State.afterBytes n (own p x o s).afterByte = own p x o (State.afterBytes n s.afterByte)
    rw [← ih]
    congr 1
    simp only [State.afterByte, own_afterRead]
    rfl

theorem afterFetch_own (p x o) (s : State) : (own p x o s).afterFetch = own p s.pc o s.afterFetch := by
  have : (own p x o s).afterOpcode = own p s.pc o s.afterOpcode := by
    simp only [State.afterOpcode, own_afterRead]
    rfl
  show State.afterBytes _ (own p x o s).afterOpcode = own p s.pc o (State.afterBytes _ s.afterOpcode)
  rw [this, afterBytes_own]; rfl

theorem finishEi_own (b : Bool) (p x o) (s : State) : (own p x o s).finishEi b = own p x o (s.finishEi b) := by
  rw [State.finishEi_eq, State.finishEi_eq]
  show (if (b && s.eiPending) = true then _ else _) = _
  split <;> rfl

/-- Executing one instruction does not depend on the own fields. -/
theorem executeOne_own (p x o) (s : State) : ∃ t, executeOne s = .next t ∧ executeOne (own p x o s) = .next (own p t.opAddr t.outcome t) := by
  obtain ⟨i, u, h1, h2, h3⟩ := executeOne_eq s
  obtain ⟨i', u', h1', h2', h3'⟩ := executeOne_eq (own p x o s)
  rw [State.fetchedBytes_congr (s := own p x o s) (t := s) rfl rfl rfl rfl, h1] at h1'
  injection h1' with h1' _; subst h1'
  refine ⟨_, h3, ?_⟩
  rw [h3', afterFetch_own] at *
  have hop : s.afterFetch.opAddr = s.pc := by rw [(State.afterFetch_frame s).1]
  obtain ⟨v, e1, e2⟩ := exec_indep i p o s.afterFetch
  rw [h2] at e1; injection e1 with e1; subst e1
  rw [hop, h2'] at e2
  injection e2 with e2; subst e2
  unfold State.retire
  have hc : (own p u.opAddr u.outcome u).cycles = u.cycles := rfl
  rw [hc, finishEi_own, own_timer]
  obtain ⟨y, hf, -⟩ := timer_frame u.cycles (u.finishEi s.eiPending)
  have : (State.timer u.cycles (u.finishEi s.eiPending)).outcome = u.outcome := by rw [timer_outcome, State.finishEi_outcome]
  have hopa : (State.timer u.cycles (u.finishEi s.eiPending)).opAddr = u.opAddr := by rw [hf, State.finishEi_eq]; split <;> rfl
  rw [this, hopa]
  rfl

theorem dispatch_own (k : Irq) (p x o) (s : State) : dispatchStep k (own p x o s) = own p x (some (.dispatch k 5)) (dispatchStep k s) := by
  unfold dispatchStep
  rw [← own_timer]
  congr 1
  have : (own p x o s).takeInterrupt k = own p x o (s.takeInterrupt k) := by
    have e : (own p x o s).clearRequest k = own p x o (s.clearRequest k) := by
      simp only [State.clearRequest, own_afterRead, own_write8, own_peek]
    have f : ∀ (t : State) (r : Word), (own p x o t).push16 r = own p x o (t.push16 r) := fun t r => by
      simp only [State.push16, State.write16]
      exact (congrArg (fun u : State => u.write8 _ _) (own_write8 p x o { t with sp := t.sp - 2 } _ _)).trans (own_write8 ..)
    unfold State.takeInterrupt
    rw [e]
    have g := f { s.clearRequest k with haltBugArmed := false } s.returnAddress
    exact congrArg (fun u : State => { u with pc := k.vector, ime := false, eiPending := false }) g
  rw [this]; rfl

end Sys2Proof.Machine
end

