-- ==== Sys2Proof/Tests/Slice0.lean ====
section
/-! SUPPORT. The model's own tests: the ill-formed term that WellFormed refuses; every instruction's decoding from the
bytes of the opcode maps; single steps from the spec's worked examples and vectors; and, for every statement with
hypotheses, a state that meets them (`witness_<statement>`). Expected results come from the spec's text, never from
the model. -/

namespace Sys2Proof.Tests

open Sys2Proof.Machine

/-! ### WellFormed (R101, R117): its one check refuses `prefixCb`, whatever byte it holds -/

theorem test_wellFormed_refuses_prefixCb : (Instr.prefixCb 0x00).wellFormed = false := rfl

theorem test_wellFormed_admits_the_row_itself : Instr.rlcB.wellFormed = true := rfl

/-! ### Decoding: the bytes of R112 and R113, sixteen slots a theorem (immediates 0x34, 0x12 in that order) -/

theorem test_decode_base_0 :
    decode [0x00] = .ok .nop [] ∧
    decode [0x01, 0x34, 0x12] = .ok (.ldBcD16 0x1234) [] ∧
    decode [0x02] = .ok .ldAtBcA [] ∧
    decode [0x03] = .ok .incBc [] ∧
    decode [0x04] = .ok .incB [] ∧
    decode [0x05] = .ok .decB [] ∧
    decode [0x06, 0x34] = .ok (.ldBD8 0x34) [] ∧
    decode [0x07] = .ok .rlca [] ∧
    decode [0x08, 0x34, 0x12] = .ok (.ldAtA16Sp 0x1234) [] ∧
    decode [0x09] = .ok .addHlBc [] ∧
    decode [0x0A] = .ok .ldAAtBc [] ∧
    decode [0x0B] = .ok .decBc [] ∧
    decode [0x0C] = .ok .incC [] ∧
    decode [0x0D] = .ok .decC [] ∧
    decode [0x0E, 0x34] = .ok (.ldCD8 0x34) [] ∧
    decode [0x0F] = .ok .rrca [] :=
  ⟨rfl, rfl, rfl, rfl, rfl, rfl, rfl, rfl, rfl, rfl, rfl, rfl, rfl, rfl, rfl, rfl⟩

theorem test_decode_base_1 :
    decode [0x10, 0x34] = .ok (.stop 0x34) [] ∧
    decode [0x11, 0x34, 0x12] = .ok (.ldDeD16 0x1234) [] ∧
    decode [0x12] = .ok .ldAtDeA [] ∧
    decode [0x13] = .ok .incDe [] ∧
    decode [0x14] = .ok .incD [] ∧
    decode [0x15] = .ok .decD [] ∧
    decode [0x16, 0x34] = .ok (.ldDD8 0x34) [] ∧
    decode [0x17] = .ok .rla [] ∧
    decode [0x18, 0x34] = .ok (.jrR8 0x34) [] ∧
    decode [0x19] = .ok .addHlDe [] ∧
    decode [0x1A] = .ok .ldAAtDe [] ∧
    decode [0x1B] = .ok .decDe [] ∧
    decode [0x1C] = .ok .incE [] ∧
    decode [0x1D] = .ok .decE [] ∧
    decode [0x1E, 0x34] = .ok (.ldED8 0x34) [] ∧
    decode [0x1F] = .ok .rra [] :=
  ⟨rfl, rfl, rfl, rfl, rfl, rfl, rfl, rfl, rfl, rfl, rfl, rfl, rfl, rfl, rfl, rfl⟩

theorem test_decode_base_2 :
    decode [0x20, 0x34] = .ok (.jrNzR8 0x34) [] ∧
    decode [0x21, 0x34, 0x12] = .ok (.ldHlD16 0x1234) [] ∧
    decode [0x22] = .ok .ldAtHliA [] ∧
    decode [0x23] = .ok .incHl [] ∧
    decode [0x24] = .ok .incH [] ∧
    decode [0x25] = .ok .decH [] ∧
    decode [0x26, 0x34] = .ok (.ldHD8 0x34) [] ∧
    decode [0x27] = .ok .daa [] ∧
    decode [0x28, 0x34] = .ok (.jrZR8 0x34) [] ∧
    decode [0x29] = .ok .addHlHl [] ∧
    decode [0x2A] = .ok .ldAAtHli [] ∧
    decode [0x2B] = .ok .decHl [] ∧
    decode [0x2C] = .ok .incL [] ∧
    decode [0x2D] = .ok .decL [] ∧
    decode [0x2E, 0x34] = .ok (.ldLD8 0x34) [] ∧
    decode [0x2F] = .ok .cpl [] :=
  ⟨rfl, rfl, rfl, rfl, rfl, rfl, rfl, rfl, rfl, rfl, rfl, rfl, rfl, rfl, rfl, rfl⟩

theorem test_decode_base_3 :
    decode [0x30, 0x34] = .ok (.jrNcR8 0x34) [] ∧
    decode [0x31, 0x34, 0x12] = .ok (.ldSpD16 0x1234) [] ∧
    decode [0x32] = .ok .ldAtHldA [] ∧
    decode [0x33] = .ok .incSp [] ∧
    decode [0x34] = .ok .incAtHl [] ∧
    decode [0x35] = .ok .decAtHl [] ∧
    decode [0x36, 0x34] = .ok (.ldAtHlD8 0x34) [] ∧
    decode [0x37] = .ok .scf [] ∧
    decode [0x38, 0x34] = .ok (.jrCR8 0x34) [] ∧
    decode [0x39] = .ok .addHlSp [] ∧
    decode [0x3A] = .ok .ldAAtHld [] ∧
    decode [0x3B] = .ok .decSp [] ∧
    decode [0x3C] = .ok .incA [] ∧
    decode [0x3D] = .ok .decA [] ∧
    decode [0x3E, 0x34] = .ok (.ldAD8 0x34) [] ∧
    decode [0x3F] = .ok .ccf [] :=
  ⟨rfl, rfl, rfl, rfl, rfl, rfl, rfl, rfl, rfl, rfl, rfl, rfl, rfl, rfl, rfl, rfl⟩

theorem test_decode_base_4 :
    decode [0x40] = .ok .ldBB [] ∧
    decode [0x41] = .ok .ldBC [] ∧
    decode [0x42] = .ok .ldBD [] ∧
    decode [0x43] = .ok .ldBE [] ∧
    decode [0x44] = .ok .ldBH [] ∧
    decode [0x45] = .ok .ldBL [] ∧
    decode [0x46] = .ok .ldBAtHl [] ∧
    decode [0x47] = .ok .ldBA [] ∧
    decode [0x48] = .ok .ldCB [] ∧
    decode [0x49] = .ok .ldCC [] ∧
    decode [0x4A] = .ok .ldCD [] ∧
    decode [0x4B] = .ok .ldCE [] ∧
    decode [0x4C] = .ok .ldCH [] ∧
    decode [0x4D] = .ok .ldCL [] ∧
    decode [0x4E] = .ok .ldCAtHl [] ∧
    decode [0x4F] = .ok .ldCA [] :=
  ⟨rfl, rfl, rfl, rfl, rfl, rfl, rfl, rfl, rfl, rfl, rfl, rfl, rfl, rfl, rfl, rfl⟩

theorem test_decode_base_5 :
    decode [0x50] = .ok .ldDB [] ∧
    decode [0x51] = .ok .ldDC [] ∧
    decode [0x52] = .ok .ldDD [] ∧
    decode [0x53] = .ok .ldDE [] ∧
    decode [0x54] = .ok .ldDH [] ∧
    decode [0x55] = .ok .ldDL [] ∧
    decode [0x56] = .ok .ldDAtHl [] ∧
    decode [0x57] = .ok .ldDA [] ∧
    decode [0x58] = .ok .ldEB [] ∧
    decode [0x59] = .ok .ldEC [] ∧
    decode [0x5A] = .ok .ldED [] ∧
    decode [0x5B] = .ok .ldEE [] ∧
    decode [0x5C] = .ok .ldEH [] ∧
    decode [0x5D] = .ok .ldEL [] ∧
    decode [0x5E] = .ok .ldEAtHl [] ∧
    decode [0x5F] = .ok .ldEA [] :=
  ⟨rfl, rfl, rfl, rfl, rfl, rfl, rfl, rfl, rfl, rfl, rfl, rfl, rfl, rfl, rfl, rfl⟩

theorem test_decode_base_6 :
    decode [0x60] = .ok .ldHB [] ∧
    decode [0x61] = .ok .ldHC [] ∧
    decode [0x62] = .ok .ldHD [] ∧
    decode [0x63] = .ok .ldHE [] ∧
    decode [0x64] = .ok .ldHH [] ∧
    decode [0x65] = .ok .ldHL [] ∧
    decode [0x66] = .ok .ldHAtHl [] ∧
    decode [0x67] = .ok .ldHA [] ∧
    decode [0x68] = .ok .ldLB [] ∧
    decode [0x69] = .ok .ldLC [] ∧
    decode [0x6A] = .ok .ldLD [] ∧
    decode [0x6B] = .ok .ldLE [] ∧
    decode [0x6C] = .ok .ldLH [] ∧
    decode [0x6D] = .ok .ldLL [] ∧
    decode [0x6E] = .ok .ldLAtHl [] ∧
    decode [0x6F] = .ok .ldLA [] :=
  ⟨rfl, rfl, rfl, rfl, rfl, rfl, rfl, rfl, rfl, rfl, rfl, rfl, rfl, rfl, rfl, rfl⟩

theorem test_decode_base_7 :
    decode [0x70] = .ok .ldAtHlB [] ∧
    decode [0x71] = .ok .ldAtHlC [] ∧
    decode [0x72] = .ok .ldAtHlD [] ∧
    decode [0x73] = .ok .ldAtHlE [] ∧
    decode [0x74] = .ok .ldAtHlH [] ∧
    decode [0x75] = .ok .ldAtHlL [] ∧
    decode [0x76] = .ok .halt [] ∧
    decode [0x77] = .ok .ldAtHlA [] ∧
    decode [0x78] = .ok .ldAB [] ∧
    decode [0x79] = .ok .ldAC [] ∧
    decode [0x7A] = .ok .ldAD [] ∧
    decode [0x7B] = .ok .ldAE [] ∧
    decode [0x7C] = .ok .ldAH [] ∧
    decode [0x7D] = .ok .ldAL [] ∧
    decode [0x7E] = .ok .ldAAtHl [] ∧
    decode [0x7F] = .ok .ldAA [] :=
  ⟨rfl, rfl, rfl, rfl, rfl, rfl, rfl, rfl, rfl, rfl, rfl, rfl, rfl, rfl, rfl, rfl⟩

theorem test_decode_base_8 :
    decode [0x80] = .ok .addAB [] ∧
    decode [0x81] = .ok .addAC [] ∧
    decode [0x82] = .ok .addAD [] ∧
    decode [0x83] = .ok .addAE [] ∧
    decode [0x84] = .ok .addAH [] ∧
    decode [0x85] = .ok .addAL [] ∧
    decode [0x86] = .ok .addAAtHl [] ∧
    decode [0x87] = .ok .addAA [] ∧
    decode [0x88] = .ok .adcAB [] ∧
    decode [0x89] = .ok .adcAC [] ∧
    decode [0x8A] = .ok .adcAD [] ∧
    decode [0x8B] = .ok .adcAE [] ∧
    decode [0x8C] = .ok .adcAH [] ∧
    decode [0x8D] = .ok .adcAL [] ∧
    decode [0x8E] = .ok .adcAAtHl [] ∧
    decode [0x8F] = .ok .adcAA [] :=
  ⟨rfl, rfl, rfl, rfl, rfl, rfl, rfl, rfl, rfl, rfl, rfl, rfl, rfl, rfl, rfl, rfl⟩

theorem test_decode_base_9 :
    decode [0x90] = .ok .subB [] ∧
    decode [0x91] = .ok .subC [] ∧
    decode [0x92] = .ok .subD [] ∧
    decode [0x93] = .ok .subE [] ∧
    decode [0x94] = .ok .subH [] ∧
    decode [0x95] = .ok .subL [] ∧
    decode [0x96] = .ok .subAtHl [] ∧
    decode [0x97] = .ok .subA [] ∧
    decode [0x98] = .ok .sbcAB [] ∧
    decode [0x99] = .ok .sbcAC [] ∧
    decode [0x9A] = .ok .sbcAD [] ∧
    decode [0x9B] = .ok .sbcAE [] ∧
    decode [0x9C] = .ok .sbcAH [] ∧
    decode [0x9D] = .ok .sbcAL [] ∧
    decode [0x9E] = .ok .sbcAAtHl [] ∧
    decode [0x9F] = .ok .sbcAA [] :=
  ⟨rfl, rfl, rfl, rfl, rfl, rfl, rfl, rfl, rfl, rfl, rfl, rfl, rfl, rfl, rfl, rfl⟩

theorem test_decode_base_A :
    decode [0xA0] = .ok .andB [] ∧
    decode [0xA1] = .ok .andC [] ∧
    decode [0xA2] = .ok .andD [] ∧
    decode [0xA3] = .ok .andE [] ∧
    decode [0xA4] = .ok .andH [] ∧
    decode [0xA5] = .ok .andL [] ∧
    decode [0xA6] = .ok .andAtHl [] ∧
    decode [0xA7] = .ok .andA [] ∧
    decode [0xA8] = .ok .xorB [] ∧
    decode [0xA9] = .ok .xorC [] ∧
    decode [0xAA] = .ok .xorD [] ∧
    decode [0xAB] = .ok .xorE [] ∧
    decode [0xAC] = .ok .xorH [] ∧
    decode [0xAD] = .ok .xorL [] ∧
    decode [0xAE] = .ok .xorAtHl [] ∧
    decode [0xAF] = .ok .xorA [] :=
  ⟨rfl, rfl, rfl, rfl, rfl, rfl, rfl, rfl, rfl, rfl, rfl, rfl, rfl, rfl, rfl, rfl⟩

theorem test_decode_base_B :
    decode [0xB0] = .ok .orB [] ∧
    decode [0xB1] = .ok .orC [] ∧
    decode [0xB2] = .ok .orD [] ∧
    decode [0xB3] = .ok .orE [] ∧
    decode [0xB4] = .ok .orH [] ∧
    decode [0xB5] = .ok .orL [] ∧
    decode [0xB6] = .ok .orAtHl [] ∧
    decode [0xB7] = .ok .orA [] ∧
    decode [0xB8] = .ok .cpB [] ∧
    decode [0xB9] = .ok .cpC [] ∧
    decode [0xBA] = .ok .cpD [] ∧
    decode [0xBB] = .ok .cpE [] ∧
    decode [0xBC] = .ok .cpH [] ∧
    decode [0xBD] = .ok .cpL [] ∧
    decode [0xBE] = .ok .cpAtHl [] ∧
    decode [0xBF] = .ok .cpA [] :=
  ⟨rfl, rfl, rfl, rfl, rfl, rfl, rfl, rfl, rfl, rfl, rfl, rfl, rfl, rfl, rfl, rfl⟩

theorem test_decode_base_C :
    decode [0xC0] = .ok .retNz [] ∧
    decode [0xC1] = .ok .popBc [] ∧
    decode [0xC2, 0x34, 0x12] = .ok (.jpNzA16 0x1234) [] ∧
    decode [0xC3, 0x34, 0x12] = .ok (.jpA16 0x1234) [] ∧
    decode [0xC4, 0x34, 0x12] = .ok (.callNzA16 0x1234) [] ∧
    decode [0xC5] = .ok .pushBc [] ∧
    decode [0xC6, 0x34] = .ok (.addAD8 0x34) [] ∧
    decode [0xC7] = .ok .rst00 [] ∧
    decode [0xC8] = .ok .retZ [] ∧
    decode [0xC9] = .ok .ret [] ∧
    decode [0xCA, 0x34, 0x12] = .ok (.jpZA16 0x1234) [] ∧
    decode [0xCC, 0x34, 0x12] = .ok (.callZA16 0x1234) [] ∧
    decode [0xCD, 0x34, 0x12] = .ok (.callA16 0x1234) [] ∧
    decode [0xCE, 0x34] = .ok (.adcAD8 0x34) [] ∧
    decode [0xCF] = .ok .rst08 [] :=
  ⟨rfl, rfl, rfl, rfl, rfl, rfl, rfl, rfl, rfl, rfl, rfl, rfl, rfl, rfl, rfl⟩

theorem test_decode_base_D :
    decode [0xD0] = .ok .retNc [] ∧
    decode [0xD1] = .ok .popDe [] ∧
    decode [0xD2, 0x34, 0x12] = .ok (.jpNcA16 0x1234) [] ∧
    decode [0xD3] = .ok .illegalD3 [] ∧
    decode [0xD4, 0x34, 0x12] = .ok (.callNcA16 0x1234) [] ∧
    decode [0xD5] = .ok .pushDe [] ∧
    decode [0xD6, 0x34] = .ok (.subD8 0x34) [] ∧
    decode [0xD7] = .ok .rst10 [] ∧
    decode [0xD8] = .ok .retC [] ∧
    decode [0xD9] = .ok .reti [] ∧
    decode [0xDA, 0x34, 0x12] = .ok (.jpCA16 0x1234) [] ∧
    decode [0xDB] = .ok .illegalDB [] ∧
    decode [0xDC, 0x34, 0x12] = .ok (.callCA16 0x1234) [] ∧
    decode [0xDD] = .ok .illegalDD [] ∧
    decode [0xDE, 0x34] = .ok (.sbcAD8 0x34) [] ∧
    decode [0xDF] = .ok .rst18 [] :=
  ⟨rfl, rfl, rfl, rfl, rfl, rfl, rfl, rfl, rfl, rfl, rfl, rfl, rfl, rfl, rfl, rfl⟩

theorem test_decode_base_E :
    decode [0xE0, 0x34] = .ok (.ldhAtA8A 0x34) [] ∧
    decode [0xE1] = .ok .popHl [] ∧
    decode [0xE2] = .ok .ldAtCA [] ∧
    decode [0xE3] = .ok .illegalE3 [] ∧
    decode [0xE4] = .ok .illegalE4 [] ∧
    decode [0xE5] = .ok .pushHl [] ∧
    decode [0xE6, 0x34] = .ok (.andD8 0x34) [] ∧
    decode [0xE7] = .ok .rst20 [] ∧
    decode [0xE8, 0x34] = .ok (.addSpR8 0x34) [] ∧
    decode [0xE9] = .ok .jpHl [] ∧
    decode [0xEA, 0x34, 0x12] = .ok (.ldAtA16A 0x1234) [] ∧
    decode [0xEB] = .ok .illegalEB [] ∧
    decode [0xEC] = .ok .illegalEC [] ∧
    decode [0xED] = .ok .illegalED [] ∧
    decode [0xEE, 0x34] = .ok (.xorD8 0x34) [] ∧
    decode [0xEF] = .ok .rst28 [] :=
  ⟨rfl, rfl, rfl, rfl, rfl, rfl, rfl, rfl, rfl, rfl, rfl, rfl, rfl, rfl, rfl, rfl⟩

theorem test_decode_base_F :
    decode [0xF0, 0x34] = .ok (.ldhAAtA8 0x34) [] ∧
    decode [0xF1] = .ok .popAf [] ∧
    decode [0xF2] = .ok .ldAAtC [] ∧
    decode [0xF3] = .ok .di [] ∧
    decode [0xF4] = .ok .illegalF4 [] ∧
    decode [0xF5] = .ok .pushAf [] ∧
    decode [0xF6, 0x34] = .ok (.orD8 0x34) [] ∧
    decode [0xF7] = .ok .rst30 [] ∧
    decode [0xF8, 0x34] = .ok (.ldHlSpR8 0x34) [] ∧
    decode [0xF9] = .ok .ldSpHl [] ∧
    decode [0xFA, 0x34, 0x12] = .ok (.ldAAtA16 0x1234) [] ∧
    decode [0xFB] = .ok .ei [] ∧
    decode [0xFC] = .ok .illegalFC [] ∧
    decode [0xFD] = .ok .illegalFD [] ∧
    decode [0xFE, 0x34] = .ok (.cpD8 0x34) [] ∧
    decode [0xFF] = .ok .rst38 [] :=
  ⟨rfl, rfl, rfl, rfl, rfl, rfl, rfl, rfl, rfl, rfl, rfl, rfl, rfl, rfl, rfl, rfl⟩

theorem test_decode_cb_0 :
    decode [0xCB, 0x00] = .ok .rlcB [] ∧
    decode [0xCB, 0x01] = .ok .rlcC [] ∧
    decode [0xCB, 0x02] = .ok .rlcD [] ∧
    decode [0xCB, 0x03] = .ok .rlcE [] ∧
    decode [0xCB, 0x04] = .ok .rlcH [] ∧
    decode [0xCB, 0x05] = .ok .rlcL [] ∧
    decode [0xCB, 0x06] = .ok .rlcAtHl [] ∧
    decode [0xCB, 0x07] = .ok .rlcA [] ∧
    decode [0xCB, 0x08] = .ok .rrcB [] ∧
    decode [0xCB, 0x09] = .ok .rrcC [] ∧
    decode [0xCB, 0x0A] = .ok .rrcD [] ∧
    decode [0xCB, 0x0B] = .ok .rrcE [] ∧
    decode [0xCB, 0x0C] = .ok .rrcH [] ∧
    decode [0xCB, 0x0D] = .ok .rrcL [] ∧
    decode [0xCB, 0x0E] = .ok .rrcAtHl [] ∧
    decode [0xCB, 0x0F] = .ok .rrcA [] :=
  ⟨rfl, rfl, rfl, rfl, rfl, rfl, rfl, rfl, rfl, rfl, rfl, rfl, rfl, rfl, rfl, rfl⟩

theorem test_decode_cb_1 :
    decode [0xCB, 0x10] = .ok .rlB [] ∧
    decode [0xCB, 0x11] = .ok .rlC [] ∧
    decode [0xCB, 0x12] = .ok .rlD [] ∧
    decode [0xCB, 0x13] = .ok .rlE [] ∧
    decode [0xCB, 0x14] = .ok .rlH [] ∧
    decode [0xCB, 0x15] = .ok .rlL [] ∧
    decode [0xCB, 0x16] = .ok .rlAtHl [] ∧
    decode [0xCB, 0x17] = .ok .rlA [] ∧
    decode [0xCB, 0x18] = .ok .rrB [] ∧
    decode [0xCB, 0x19] = .ok .rrC [] ∧
    decode [0xCB, 0x1A] = .ok .rrD [] ∧
    decode [0xCB, 0x1B] = .ok .rrE [] ∧
    decode [0xCB, 0x1C] = .ok .rrH [] ∧
    decode [0xCB, 0x1D] = .ok .rrL [] ∧
    decode [0xCB, 0x1E] = .ok .rrAtHl [] ∧
    decode [0xCB, 0x1F] = .ok .rrA [] :=
  ⟨rfl, rfl, rfl, rfl, rfl, rfl, rfl, rfl, rfl, rfl, rfl, rfl, rfl, rfl, rfl, rfl⟩

theorem test_decode_cb_2 :
    decode [0xCB, 0x20] = .ok .slaB [] ∧
    decode [0xCB, 0x21] = .ok .slaC [] ∧
    decode [0xCB, 0x22] = .ok .slaD [] ∧
    decode [0xCB, 0x23] = .ok .slaE [] ∧
    decode [0xCB, 0x24] = .ok .slaH [] ∧
    decode [0xCB, 0x25] = .ok .slaL [] ∧
    decode [0xCB, 0x26] = .ok .slaAtHl [] ∧
    decode [0xCB, 0x27] = .ok .slaA [] ∧
    decode [0xCB, 0x28] = .ok .sraB [] ∧
    decode [0xCB, 0x29] = .ok .sraC [] ∧
    decode [0xCB, 0x2A] = .ok .sraD [] ∧
    decode [0xCB, 0x2B] = .ok .sraE [] ∧
    decode [0xCB, 0x2C] = .ok .sraH [] ∧
    decode [0xCB, 0x2D] = .ok .sraL [] ∧
    decode [0xCB, 0x2E] = .ok .sraAtHl [] ∧
    decode [0xCB, 0x2F] = .ok .sraA [] :=
  ⟨rfl, rfl, rfl, rfl, rfl, rfl, rfl, rfl, rfl, rfl, rfl, rfl, rfl, rfl, rfl, rfl⟩

theorem test_decode_cb_3 :
    decode [0xCB, 0x30] = .ok .swapB [] ∧
    decode [0xCB, 0x31] = .ok .swapC [] ∧
    decode [0xCB, 0x32] = .ok .swapD [] ∧
    decode [0xCB, 0x33] = .ok .swapE [] ∧
    decode [0xCB, 0x34] = .ok .swapH [] ∧
    decode [0xCB, 0x35] = .ok .swapL [] ∧
    decode [0xCB, 0x36] = .ok .swapAtHl [] ∧
    decode [0xCB, 0x37] = .ok .swapA [] ∧
    decode [0xCB, 0x38] = .ok .srlB [] ∧
    decode [0xCB, 0x39] = .ok .srlC [] ∧
    decode [0xCB, 0x3A] = .ok .srlD [] ∧
    decode [0xCB, 0x3B] = .ok .srlE [] ∧
    decode [0xCB, 0x3C] = .ok .srlH [] ∧
    decode [0xCB, 0x3D] = .ok .srlL [] ∧
    decode [0xCB, 0x3E] = .ok .srlAtHl [] ∧
    decode [0xCB, 0x3F] = .ok .srlA [] :=
  ⟨rfl, rfl, rfl, rfl, rfl, rfl, rfl, rfl, rfl, rfl, rfl, rfl, rfl, rfl, rfl, rfl⟩

theorem test_decode_cb_4 :
    decode [0xCB, 0x40] = .ok .bit0B [] ∧
    decode [0xCB, 0x41] = .ok .bit0C [] ∧
    decode [0xCB, 0x42] = .ok .bit0D [] ∧
    decode [0xCB, 0x43] = .ok .bit0E [] ∧
    decode [0xCB, 0x44] = .ok .bit0H [] ∧
    decode [0xCB, 0x45] = .ok .bit0L [] ∧
    decode [0xCB, 0x46] = .ok .bit0AtHl [] ∧
    decode [0xCB, 0x47] = .ok .bit0A [] ∧
    decode [0xCB, 0x48] = .ok .bit1B [] ∧
    decode [0xCB, 0x49] = .ok .bit1C [] ∧
    decode [0xCB, 0x4A] = .ok .bit1D [] ∧
    decode [0xCB, 0x4B] = .ok .bit1E [] ∧
    decode [0xCB, 0x4C] = .ok .bit1H [] ∧
    decode [0xCB, 0x4D] = .ok .bit1L [] ∧
    decode [0xCB, 0x4E] = .ok .bit1AtHl [] ∧
    decode [0xCB, 0x4F] = .ok .bit1A [] :=
  ⟨rfl, rfl, rfl, rfl, rfl, rfl, rfl, rfl, rfl, rfl, rfl, rfl, rfl, rfl, rfl, rfl⟩

theorem test_decode_cb_5 :
    decode [0xCB, 0x50] = .ok .bit2B [] ∧
    decode [0xCB, 0x51] = .ok .bit2C [] ∧
    decode [0xCB, 0x52] = .ok .bit2D [] ∧
    decode [0xCB, 0x53] = .ok .bit2E [] ∧
    decode [0xCB, 0x54] = .ok .bit2H [] ∧
    decode [0xCB, 0x55] = .ok .bit2L [] ∧
    decode [0xCB, 0x56] = .ok .bit2AtHl [] ∧
    decode [0xCB, 0x57] = .ok .bit2A [] ∧
    decode [0xCB, 0x58] = .ok .bit3B [] ∧
    decode [0xCB, 0x59] = .ok .bit3C [] ∧
    decode [0xCB, 0x5A] = .ok .bit3D [] ∧
    decode [0xCB, 0x5B] = .ok .bit3E [] ∧
    decode [0xCB, 0x5C] = .ok .bit3H [] ∧
    decode [0xCB, 0x5D] = .ok .bit3L [] ∧
    decode [0xCB, 0x5E] = .ok .bit3AtHl [] ∧
    decode [0xCB, 0x5F] = .ok .bit3A [] :=
  ⟨rfl, rfl, rfl, rfl, rfl, rfl, rfl, rfl, rfl, rfl, rfl, rfl, rfl, rfl, rfl, rfl⟩

theorem test_decode_cb_6 :
    decode [0xCB, 0x60] = .ok .bit4B [] ∧
    decode [0xCB, 0x61] = .ok .bit4C [] ∧
    decode [0xCB, 0x62] = .ok .bit4D [] ∧
    decode [0xCB, 0x63] = .ok .bit4E [] ∧
    decode [0xCB, 0x64] = .ok .bit4H [] ∧
    decode [0xCB, 0x65] = .ok .bit4L [] ∧
    decode [0xCB, 0x66] = .ok .bit4AtHl [] ∧
    decode [0xCB, 0x67] = .ok .bit4A [] ∧
    decode [0xCB, 0x68] = .ok .bit5B [] ∧
    decode [0xCB, 0x69] = .ok .bit5C [] ∧
    decode [0xCB, 0x6A] = .ok .bit5D [] ∧
    decode [0xCB, 0x6B] = .ok .bit5E [] ∧
    decode [0xCB, 0x6C] = .ok .bit5H [] ∧
    decode [0xCB, 0x6D] = .ok .bit5L [] ∧
    decode [0xCB, 0x6E] = .ok .bit5AtHl [] ∧
    decode [0xCB, 0x6F] = .ok .bit5A [] :=
  ⟨rfl, rfl, rfl, rfl, rfl, rfl, rfl, rfl, rfl, rfl, rfl, rfl, rfl, rfl, rfl, rfl⟩

theorem test_decode_cb_7 :
    decode [0xCB, 0x70] = .ok .bit6B [] ∧
    decode [0xCB, 0x71] = .ok .bit6C [] ∧
    decode [0xCB, 0x72] = .ok .bit6D [] ∧
    decode [0xCB, 0x73] = .ok .bit6E [] ∧
    decode [0xCB, 0x74] = .ok .bit6H [] ∧
    decode [0xCB, 0x75] = .ok .bit6L [] ∧
    decode [0xCB, 0x76] = .ok .bit6AtHl [] ∧
    decode [0xCB, 0x77] = .ok .bit6A [] ∧
    decode [0xCB, 0x78] = .ok .bit7B [] ∧
    decode [0xCB, 0x79] = .ok .bit7C [] ∧
    decode [0xCB, 0x7A] = .ok .bit7D [] ∧
    decode [0xCB, 0x7B] = .ok .bit7E [] ∧
    decode [0xCB, 0x7C] = .ok .bit7H [] ∧
    decode [0xCB, 0x7D] = .ok .bit7L [] ∧
    decode [0xCB, 0x7E] = .ok .bit7AtHl [] ∧
    decode [0xCB, 0x7F] = .ok .bit7A [] :=
  ⟨rfl, rfl, rfl, rfl, rfl, rfl, rfl, rfl, rfl, rfl, rfl, rfl, rfl, rfl, rfl, rfl⟩

theorem test_decode_cb_8 :
    decode [0xCB, 0x80] = .ok .res0B [] ∧
    decode [0xCB, 0x81] = .ok .res0C [] ∧
    decode [0xCB, 0x82] = .ok .res0D [] ∧
    decode [0xCB, 0x83] = .ok .res0E [] ∧
    decode [0xCB, 0x84] = .ok .res0H [] ∧
    decode [0xCB, 0x85] = .ok .res0L [] ∧
    decode [0xCB, 0x86] = .ok .res0AtHl [] ∧
    decode [0xCB, 0x87] = .ok .res0A [] ∧
    decode [0xCB, 0x88] = .ok .res1B [] ∧
    decode [0xCB, 0x89] = .ok .res1C [] ∧
    decode [0xCB, 0x8A] = .ok .res1D [] ∧
    decode [0xCB, 0x8B] = .ok .res1E [] ∧
    decode [0xCB, 0x8C] = .ok .res1H [] ∧
    decode [0xCB, 0x8D] = .ok .res1L [] ∧
    decode [0xCB, 0x8E] = .ok .res1AtHl [] ∧
    decode [0xCB, 0x8F] = .ok .res1A [] :=
  ⟨rfl, rfl, rfl, rfl, rfl, rfl, rfl, rfl, rfl, rfl, rfl, rfl, rfl, rfl, rfl, rfl⟩

theorem test_decode_cb_9 :
    decode [0xCB, 0x90] = .ok .res2B [] ∧
    decode [0xCB, 0x91] = .ok .res2C [] ∧
    decode [0xCB, 0x92] = .ok .res2D [] ∧
    decode [0xCB, 0x93] = .ok .res2E [] ∧
    decode [0xCB, 0x94] = .ok .res2H [] ∧
    decode [0xCB, 0x95] = .ok .res2L [] ∧
    decode [0xCB, 0x96] = .ok .res2AtHl [] ∧
    decode [0xCB, 0x97] = .ok .res2A [] ∧
    decode [0xCB, 0x98] = .ok .res3B [] ∧
    decode [0xCB, 0x99] = .ok .res3C [] ∧
    decode [0xCB, 0x9A] = .ok .res3D [] ∧
    decode [0xCB, 0x9B] = .ok .res3E [] ∧
    decode [0xCB, 0x9C] = .ok .res3H [] ∧
    decode [0xCB, 0x9D] = .ok .res3L [] ∧
    decode [0xCB, 0x9E] = .ok .res3AtHl [] ∧
    decode [0xCB, 0x9F] = .ok .res3A [] :=
  ⟨rfl, rfl, rfl, rfl, rfl, rfl, rfl, rfl, rfl, rfl, rfl, rfl, rfl, rfl, rfl, rfl⟩

theorem test_decode_cb_A :
    decode [0xCB, 0xA0] = .ok .res4B [] ∧
    decode [0xCB, 0xA1] = .ok .res4C [] ∧
    decode [0xCB, 0xA2] = .ok .res4D [] ∧
    decode [0xCB, 0xA3] = .ok .res4E [] ∧
    decode [0xCB, 0xA4] = .ok .res4H [] ∧
    decode [0xCB, 0xA5] = .ok .res4L [] ∧
    decode [0xCB, 0xA6] = .ok .res4AtHl [] ∧
    decode [0xCB, 0xA7] = .ok .res4A [] ∧
    decode [0xCB, 0xA8] = .ok .res5B [] ∧
    decode [0xCB, 0xA9] = .ok .res5C [] ∧
    decode [0xCB, 0xAA] = .ok .res5D [] ∧
    decode [0xCB, 0xAB] = .ok .res5E [] ∧
    decode [0xCB, 0xAC] = .ok .res5H [] ∧
    decode [0xCB, 0xAD] = .ok .res5L [] ∧
    decode [0xCB, 0xAE] = .ok .res5AtHl [] ∧
    decode [0xCB, 0xAF] = .ok .res5A [] :=
  ⟨rfl, rfl, rfl, rfl, rfl, rfl, rfl, rfl, rfl, rfl, rfl, rfl, rfl, rfl, rfl, rfl⟩

theorem test_decode_cb_B :
    decode [0xCB, 0xB0] = .ok .res6B [] ∧
    decode [0xCB, 0xB1] = .ok .res6C [] ∧
    decode [0xCB, 0xB2] = .ok .res6D [] ∧
    decode [0xCB, 0xB3] = .ok .res6E [] ∧
    decode [0xCB, 0xB4] = .ok .res6H [] ∧
    decode [0xCB, 0xB5] = .ok .res6L [] ∧
    decode [0xCB, 0xB6] = .ok .res6AtHl [] ∧
    decode [0xCB, 0xB7] = .ok .res6A [] ∧
    decode [0xCB, 0xB8] = .ok .res7B [] ∧
    decode [0xCB, 0xB9] = .ok .res7C [] ∧
    decode [0xCB, 0xBA] = .ok .res7D [] ∧
    decode [0xCB, 0xBB] = .ok .res7E [] ∧
    decode [0xCB, 0xBC] = .ok .res7H [] ∧
    decode [0xCB, 0xBD] = .ok .res7L [] ∧
    decode [0xCB, 0xBE] = .ok .res7AtHl [] ∧
    decode [0xCB, 0xBF] = .ok .res7A [] :=
  ⟨rfl, rfl, rfl, rfl, rfl, rfl, rfl, rfl, rfl, rfl, rfl, rfl, rfl, rfl, rfl, rfl⟩

theorem test_decode_cb_C :
    decode [0xCB, 0xC0] = .ok .set0B [] ∧
    decode [0xCB, 0xC1] = .ok .set0C [] ∧
    decode [0xCB, 0xC2] = .ok .set0D [] ∧
    decode [0xCB, 0xC3] = .ok .set0E [] ∧
    decode [0xCB, 0xC4] = .ok .set0H [] ∧
    decode [0xCB, 0xC5] = .ok .set0L [] ∧
    decode [0xCB, 0xC6] = .ok .set0AtHl [] ∧
    decode [0xCB, 0xC7] = .ok .set0A [] ∧
    decode [0xCB, 0xC8] = .ok .set1B [] ∧
    decode [0xCB, 0xC9] = .ok .set1C [] ∧
    decode [0xCB, 0xCA] = .ok .set1D [] ∧
    decode [0xCB, 0xCB] = .ok .set1E [] ∧
    decode [0xCB, 0xCC] = .ok .set1H [] ∧
    decode [0xCB, 0xCD] = .ok .set1L [] ∧
    decode [0xCB, 0xCE] = .ok .set1AtHl [] ∧
    decode [0xCB, 0xCF] = .ok .set1A [] :=
  ⟨rfl, rfl, rfl, rfl, rfl, rfl, rfl, rfl, rfl, rfl, rfl, rfl, rfl, rfl, rfl, rfl⟩

theorem test_decode_cb_D :
    decode [0xCB, 0xD0] = .ok .set2B [] ∧
    decode [0xCB, 0xD1] = .ok .set2C [] ∧
    decode [0xCB, 0xD2] = .ok .set2D [] ∧
    decode [0xCB, 0xD3] = .ok .set2E [] ∧
    decode [0xCB, 0xD4] = .ok .set2H [] ∧
    decode [0xCB, 0xD5] = .ok .set2L [] ∧
    decode [0xCB, 0xD6] = .ok .set2AtHl [] ∧
    decode [0xCB, 0xD7] = .ok .set2A [] ∧
    decode [0xCB, 0xD8] = .ok .set3B [] ∧
    decode [0xCB, 0xD9] = .ok .set3C [] ∧
    decode [0xCB, 0xDA] = .ok .set3D [] ∧
    decode [0xCB, 0xDB] = .ok .set3E [] ∧
    decode [0xCB, 0xDC] = .ok .set3H [] ∧
    decode [0xCB, 0xDD] = .ok .set3L [] ∧
    decode [0xCB, 0xDE] = .ok .set3AtHl [] ∧
    decode [0xCB, 0xDF] = .ok .set3A [] :=
  ⟨rfl, rfl, rfl, rfl, rfl, rfl, rfl, rfl, rfl, rfl, rfl, rfl, rfl, rfl, rfl, rfl⟩

theorem test_decode_cb_E :
    decode [0xCB, 0xE0] = .ok .set4B [] ∧
    decode [0xCB, 0xE1] = .ok .set4C [] ∧
    decode [0xCB, 0xE2] = .ok .set4D [] ∧
    decode [0xCB, 0xE3] = .ok .set4E [] ∧
    decode [0xCB, 0xE4] = .ok .set4H [] ∧
    decode [0xCB, 0xE5] = .ok .set4L [] ∧
    decode [0xCB, 0xE6] = .ok .set4AtHl [] ∧
    decode [0xCB, 0xE7] = .ok .set4A [] ∧
    decode [0xCB, 0xE8] = .ok .set5B [] ∧
    decode [0xCB, 0xE9] = .ok .set5C [] ∧
    decode [0xCB, 0xEA] = .ok .set5D [] ∧
    decode [0xCB, 0xEB] = .ok .set5E [] ∧
    decode [0xCB, 0xEC] = .ok .set5H [] ∧
    decode [0xCB, 0xED] = .ok .set5L [] ∧
    decode [0xCB, 0xEE] = .ok .set5AtHl [] ∧
    decode [0xCB, 0xEF] = .ok .set5A [] :=
  ⟨rfl, rfl, rfl, rfl, rfl, rfl, rfl, rfl, rfl, rfl, rfl, rfl, rfl, rfl, rfl, rfl⟩

theorem test_decode_cb_F :
    decode [0xCB, 0xF0] = .ok .set6B [] ∧
    decode [0xCB, 0xF1] = .ok .set6C [] ∧
    decode [0xCB, 0xF2] = .ok .set6D [] ∧
    decode [0xCB, 0xF3] = .ok .set6E [] ∧
    decode [0xCB, 0xF4] = .ok .set6H [] ∧
    decode [0xCB, 0xF5] = .ok .set6L [] ∧
    decode [0xCB, 0xF6] = .ok .set6AtHl [] ∧
    decode [0xCB, 0xF7] = .ok .set6A [] ∧
    decode [0xCB, 0xF8] = .ok .set7B [] ∧
    decode [0xCB, 0xF9] = .ok .set7C [] ∧
    decode [0xCB, 0xFA] = .ok .set7D [] ∧
    decode [0xCB, 0xFB] = .ok .set7E [] ∧
    decode [0xCB, 0xFC] = .ok .set7H [] ∧
    decode [0xCB, 0xFD] = .ok .set7L [] ∧
    decode [0xCB, 0xFE] = .ok .set7AtHl [] ∧
    decode [0xCB, 0xFF] = .ok .set7A [] :=
  ⟨rfl, rfl, rfl, rfl, rfl, rfl, rfl, rfl, rfl, rfl, rfl, rfl, rfl, rfl, rfl, rfl⟩

/-! ### The opcode table's words -/

/-- 0x1F is RRA, 0xCB37 is SWAP A with the prefix in the high byte, and 0xC5 with no operand bits is PUSH BC. -/
theorem test_table_words :
    decodeTableWord 8 0x1F = some .rra ∧ decodeTableWord 16 0xCB37 = some .swapA ∧
    decodeTableWord 8 0xC5 = some .pushBc ∧ decodeTableWord 16 0x0006 = some (.ldBD8 0x00) ∧
    decodeTableWord 8 0xCB = some (.prefixCb 0x00) ∧ decodeTableWord 24 0xC0FFEE = some (.xorD8 0xFF) :=
  ⟨rfl, rfl, rfl, rfl, rfl, rfl⟩

/-- Too few bytes are rejected. -/
theorem test_decode_rejects : decode [] = .reject .noByte ∧ decode [0x01, 0x34] = .reject (.truncated 0x01 2) :=
  ⟨rfl, rfl⟩

/-- The text of a decoded instruction (R119's spelling). -/
theorem test_text : (Instr.ldBcD16 0x1234).text = "LD BC,0x1234" ∧ Instr.swapA.text = "SWAP A" := ⟨rfl, rfl⟩

/-! ### Single steps -/

/-- Bytes at 0x0100 and PC there, everything else 0: the vectors' launch state (95_test_vectors.md). -/
def launch (bytes : List Byte) : State := { State.reset with pc := 0x0100, mem := placeBytes [] 0x0100 bytes }

/-- The parameters with `ILLEGAL_OPCODE_POLICY = lock`. -/
def locking : Config := { Config.default with illegalPolicy := .lock }

/-- The launch state on another bus. -/
def launchOn (bus : Bus) (bytes : List Byte) : State := { launch bytes with config := { Config.default with bus := bus } }

/-- A bus with the effects that R76 and D13 name: addresses below 0x8000 keep what they hold, 0xFEA0 to 0xFEFF read as
0xFF, and a write to DIV that is not the timer's clears it. -/
def mapped : Bus where
  reply := .ifElse (.op .and (.op .lt (.lit 0xFE9F) .address) (.op .lt .address (.lit 0xFF00))) (.lit 0xFF) (.cell .address)
  onRead := .nothing
  onWrite := .ifElse (.op .lt .address (.lit 0x8000)) .nothing (.store .address
    (.ifElse (.op .and (.op .eq .address (.lit 0xFF04)) (.op .eq .byTimer (.lit 0))) (.lit 0) .value))

/-- A bus on which a read of 0xC000 adds 1 to what the next one returns. -/
def counting : Bus where
  reply := .cell .address
  onRead := .ifElse (.op .eq .address (.lit 0xC000)) (.store .address (.op .add (.cell .address) (.lit 1))) .nothing
  onWrite := .store .address .value

/-- One more byte in memory. -/
def poke (a : Word) (v : Byte) (s : State) : State := { s with mem := placeBytes s.mem a [v] }

/-- IE, IF, IME: a state in which interrupts are pending or not. -/
def irq (ie iflag : Byte) (ime : Bool) (s : State) : State := { poke 0xFFFF ie (poke 0xFF0F iflag s) with ime := ime }

/-- The state after a step that answers one. -/
def after (s : State) : State :=
  match step s with
  | .next t => t
  | _ => s

/-- Every step answers a next state, so `after` is it. -/
theorem step_after (s : State) : step s = .next (after s) := by
  have h : ∃ t, step s = .next t := by
    rcases step_cases s with ⟨-, e⟩ | ⟨-, -, -, e⟩ | ⟨-, -, -, -, k, -, e⟩ | ⟨-, -, -, e⟩
    · exact ⟨_, e⟩
    · exact ⟨_, e⟩
    · exact ⟨_, e⟩
    · obtain ⟨i, u, -, -, h⟩ := executeOne_eq s.checked
      exact ⟨_, e.trans h⟩
  obtain ⟨t, h⟩ := h
  unfold after
  rw [h]

/-- V40.1. -/
theorem test_add : let t := after { launch [0x80] with a := 0x3A, b := 0xC6 }
    t.a = 0x00 ∧ t.f.toByte = 0xB0 ∧ t.pc = 0x0101 ∧ t.divAcc = 4 := by decide

/-- V40.7. -/
theorem test_adc_folds_the_carry_in : let t := after { launch [0x8B] with a := 0xE1, e := 0x0F, f := Flags.ofByte 0x10 }
    t.a = 0xF1 ∧ t.f.toByte = 0x20 := by decide

/-- R159: SBC A,A with C = 1 gives 0xFF and F = 0x70. -/
theorem test_sbc_a_a : let t := after { launch [0x9F] with a := 0x12, f := Flags.ofByte 0x10 }
    t.a = 0xFF ∧ t.f.toByte = 0x70 := by decide

/-- V40.22. -/
theorem test_and : let t := after { launch [0xE6, 0x38] with a := 0x5A, f := Flags.ofByte 0x10 }
    t.a = 0x18 ∧ t.f.toByte = 0x20 ∧ t.pc = 0x0102 := by decide

/-- V40.31. -/
theorem test_cp_leaves_a : let t := after { launch [0xB8] with a := 0x3C, b := 0x40 }
    t.a = 0x3C ∧ t.f.toByte = 0x50 := by decide

/-- V40.34. -/
theorem test_inc_wraps_and_keeps_c : let t := after { launch [0x3C] with a := 0xFF, f := Flags.ofByte 0x10 }
    t.a = 0x00 ∧ t.f.toByte = 0xB0 := by decide

/-- R185: A = 0xFA, N = H = C = 0 gives A = 0x60, C = 1. -/
theorem test_daa : let t := after { launch [0x27] with a := 0xFA }
    t.a = 0x60 ∧ t.f.toByte = 0x10 := by decide

/-- V41.3. -/
theorem test_add_hl_half_carry : let t := after { launch [0x19] with h := 0x0F, l := 0xFF, e := 0x01 }
    t.hl = 0x1000 ∧ t.f.toByte = 0x20 := by decide

/-- R205: SP = 0x0FFF with r8 = 0x01 gives F = 0x20 under `doc16` and 0x30 under `hw8`. -/
theorem test_add_sp_flags :
    (after { launch [0xE8, 0x01] with sp := 0x0FFF }).f.toByte = 0x20 ∧
    (after { launch [0xE8, 0x01] with
      sp := 0x0FFF, config := { Config.default with addSpFlags := .hw8 } }).f.toByte = 0x30 := by decide

/-- R220: RLCA of 0x00 leaves Z = 0; R225's RLC A sets it. -/
theorem test_rlca_and_rlc_a : (after (launch [0x07])).f.toByte = 0x00 ∧ (after (launch [0xCB, 0x07])).f.toByte = 0x80 := by
  decide

/-- V42.15. -/
theorem test_sla_at_hl : let t := after (poke 0xC000 0xFF { launch [0xCB, 0x26] with h := 0xC0 })
    t.peek 0xC000 = 0xFE ∧ t.f.toByte = 0x10 ∧ t.divAcc = 16 := by decide

/-- V42.24. -/
theorem test_bit_at_hl : let t := after (poke 0xC000 0x08 { launch [0xCB, 0x5E] with h := 0xC0 })
    t.f.toByte = 0x20 ∧ t.peek 0xC000 = 0x08 := by decide

/-- V43.17: HL wraps. -/
theorem test_store_and_step_hl : let t := after { launch [0x22] with a := 0x56, h := 0xFF, l := 0xFF }
    t.hl = 0x0000 ∧ t.peek 0xFFFF = 0x56 := by decide

/-- V43.23. -/
theorem test_store_sp : let t := after { launch [0x08, 0x00, 0xC1] with sp := 0xFFF8 }
    t.peek 0xC100 = 0xF8 ∧ t.peek 0xC101 = 0xFF ∧ t.divAcc = 20 := by decide

/-- V44.1. -/
theorem test_push : let t := after { launch [0xC5] with b := 0x12, c := 0x34, sp := 0xFFFE }
    t.sp = 0xFFFC ∧ t.peek 0xFFFC = 0x34 ∧ t.peek 0xFFFD = 0x12 := by decide

/-- R305's example, and V44.4: the read of POP HL wraps to 0x0000. -/
theorem test_pop :
    (after (poke 0xC000 0xFF (poke 0xC001 0x12 { launch [0xF1] with sp := 0xC000 }))).af = 0x12F0 ∧
    (after (poke 0xFFFF 0x22 (poke 0x0000 0x11 { launch [0xE1] with sp := 0xFFFF }))).hl = 0x1122 := by decide

/-- The source's S4: JP NZ, not taken (3 cycles) and taken (4 cycles). -/
theorem test_jp_nz :
    (let t := after { launch [0xC2, 0x34, 0x12] with f := Flags.ofByte 0x80 }; t.pc = 0x0103 ∧ t.cycles = 3) ∧
    (let t := after (launch [0xC2, 0x34, 0x12]); t.pc = 0x1234 ∧ t.cycles = 4) := by decide

/-- R309: r8 = 0xFE jumps to the JR itself. -/
theorem test_jr_to_itself : (after (launch [0x18, 0xFE])).pc = 0x0100 := by decide

/-- V44.16. -/
theorem test_call : let t := after { launch [0xCD, 0x34, 0x12] with sp := 0xFFFE }
    t.pc = 0x1234 ∧ t.sp = 0xFFFC ∧ t.peek 0xFFFC = 0x03 ∧ t.peek 0xFFFD = 0x01 := by decide

/-- V44.25. -/
theorem test_rst : let t := after { launch [0xC7] with pc := 0x0100, sp := 0xD000 }
    t.pc = 0x0000 ∧ t.peek 0xCFFE = 0x01 ∧ t.peek 0xCFFF = 0x01 := by decide

/-- V44.22. -/
theorem test_reti : let t := after (poke 0xC000 0x03 (poke 0xC001 0x01 { launch [0xD9] with sp := 0xC000 }))
    t.pc = 0x0103 ∧ t.sp = 0xC002 ∧ t.ime = true := by decide

/-- V45.6, V60.11: HALT with nothing enabled pending halts; with something pending and IME = 0 it arms the halt bug. -/
theorem test_halt :
    (after (irq 0x01 0x04 false (launch [0x76]))).halted = true ∧
    (let t := after (irq 0x04 0x04 false (launch [0x76, 0x3C])); t.halted = false ∧ t.haltBugArmed = true ∧
      (after t).pc = 0x0101 ∧ (after (after t)).a = 0x02) := by decide

/-- R422: EI then HALT; the dispatch pushes the address of the HALT. -/
theorem test_armed_dispatch_pushes_halt :
    let t := after { irq 0x04 0x04 true { launch [] with sp := 0xD000 } with haltBugArmed := true }
    t.pc = 0x0050 ∧ t.peek 0xCFFE = 0xFF ∧ t.peek 0xCFFF = 0x00 ∧ t.haltBugArmed = false := by decide

/-- V45.12 and R405: EI, then IME becomes 1 at the end of the next instruction; DI in that slot cancels it. -/
theorem test_ei :
    (let t := after (launch [0xFB, 0x00]); t.ime = false ∧ t.eiPending = true ∧ (after t).ime = true) ∧
    (after (after (launch [0xFB, 0xF3]))).ime = false := by decide

/-- V45.9: STOP takes its second byte; the next step is stuck. -/
theorem test_stop : let t := after (launch [0x10, 0x00, 0x3C])
    t.pc = 0x0102 ∧ t.stopped = true ∧ t.divAcc = 4 ∧ (after t).pc = 0x0102 := by decide

/-- R360's example, and the lock of R361. -/
theorem test_illegal :
    (let t := after (launch [0xD3]); t.pc = 0x0101 ∧ t.fault = some ⟨0x0100, 0xD3⟩) ∧
    (let t := after { launch [0xE4, 0x3C] with config := locking }; (after t).a = 0x00) := by decide

/-- V60.2, V60.5: the joypad interrupt, its request bit alone cleared; bits 7..5 request nothing. -/
theorem test_dispatch :
    (let t := after (irq 0x1F 0xF0 true { launch [0x00] with sp := 0xD000 })
     t.pc = 0x0060 ∧ t.ime = false ∧ t.peek 0xFF0F = 0xE0 ∧ t.peek 0xCFFF = 0x01 ∧ t.divAcc = 20) ∧
    (after (irq 0xE0 0xE0 true (launch [0x00]))).pc = 0x0101 := by decide

/-- V60T.9: TIMA counts the CALL's 24 clocks once, 8 are left. -/
theorem test_tima_counts : let t := after (poke 0xFF07 0x05 { launch [0xCD, 0x00, 0x02] with sp := 0xFFFE })
    t.timaAcc = 8 ∧ t.peek 0xFF05 = 0x01 ∧ t.divAcc = 24 := by decide

/-- The source's overflow example: TIMA 0xFF, TMA 0x05. -/
theorem test_tima_reloads :
    let t := after (poke 0xFF07 0x05 (poke 0xFF05 0xFF (poke 0xFF06 0x05 { launch [0x00] with timaAcc := 12 })))
    t.peek 0xFF05 = 0x05 ∧ t.peek 0xFF0F = 0x04 ∧ t.timaAcc = 0 := by decide

/-- R431: DIV counts at 256 clocks and wraps from 0xFF to 0x00. -/
theorem test_div_wraps : let t := after (poke 0xFF04 0xFF { launch [0x00] with divAcc := 252 })
    t.peek 0xFF04 = 0x00 ∧ t.divAcc = 0 := by decide

/-- R411, R79: `pending()` reads IE first, then IF, and the fetch follows. -/
theorem test_access_order : (after (irq 0x01 0x00 true (launch [0x3E, 0x12]))).trace.take 4 =
    [.read 0xFFFF 0x01, .read 0xFF0F 0x00, .read 0x0100 0x3E, .read 0x0101 0x12] := by decide

/-- R502. -/
theorem test_post_boot : let t := applyInput (.reset .dmgPostBoot) (launch [])
    t.af = 0x01B0 ∧ t.bc = 0x0013 ∧ t.de = 0x00D8 ∧ t.hl = 0x014D ∧ t.sp = 0xFFFE ∧ t.pc = 0x0100 := by decide

/-- `withFetchWord` places a word where the next step fetches it, from reset: LD B,0x56 (R261). -/
theorem test_withFetchWord : (after (State.reset.withFetchWord 16 0x5606)).b = 0x56 := by decide

/-- R76 on a bus that maps its addresses: LD (0x0000),A, LD A,(0xFEA0), LD (0xFF04),A and the timer's own DIV write. -/
theorem test_mapped_bus :
    (after { launchOn mapped [0xEA, 0x00, 0x00] with a := 0x12 }).peek 0x0000 = 0x00 ∧
    (after (launchOn mapped [0xFA, 0xA0, 0xFE])).a = 0xFF ∧
    (after (poke 0xFF04 0x34 { launchOn mapped [0xEA, 0x04, 0xFF] with a := 0x12 })).peek 0xFF04 = 0x00 ∧
    (after (poke 0xFF04 0x34 { launchOn mapped [0x00] with divAcc := 252 })).peek 0xFF04 = 0x35 := by decide

/-- R75, R76 on a bus whose reads have an effect: LD A,(HL) reads once; INC (HL) stores what it read, plus 1; POP BC at
0xBFFF reads 0xC000 second. -/
theorem test_counting_bus :
    (let t := after (poke 0xC000 0x05 { launchOn counting [0x7E] with h := 0xC0 }); t.a = 0x05 ∧ t.peek 0xC000 = 0x06) ∧
    (after (poke 0xC000 0x05 { launchOn counting [0x34] with h := 0xC0 })).peek 0xC000 = 0x06 ∧
    (let t := after (poke 0xC000 0x05 { launchOn counting [0xC1] with sp := 0xBFFF })
     t.b = 0x05 ∧ t.peek 0xC000 = 0x06) := by decide

/-! ### Witnesses: states and operands that meet the hypotheses of the statements -/

theorem witness_DecodeOfEncode : (Instr.ldBcD16 0x1234).wellFormed = true ∧ Instr.set7A.wellFormed = true := ⟨rfl, rfl⟩

theorem witness_EncodeOfDecode : decode [0x01, 0x34, 0x12, 0xFF] = .ok (.ldBcD16 0x1234) [0xFF] := rfl

theorem witness_IllegalSlotsAreExactlyEleven :
    decode [0xD3, 0x00, 0x00] = .ok .illegalD3 [0x00, 0x00] ∧
    decode [0xFD, 0x00, 0x00] = .ok .illegalFD [0x00, 0x00] ∧
    decode [0xD4, 0x00, 0x00] = .ok (.callNcA16 0x0000) [] := ⟨rfl, rfl, rfl⟩

theorem witness_LengthIsAFunctionOfTheFirstByte :
    (encode (.ldBcD16 0x0000)).head? = (encode (.ldBcD16 0xFFFF)).head? ∧ (encode .rlcB).head? = some 0xCB := ⟨rfl, rfl⟩

/-- The hypothesis `s.flat` of the statements about the reference bus. -/
theorem witness_flat : State.reset.flat ∧ (launch [0xC5]).flat ∧ ¬ (launchOn mapped [0xC5]).flat := by
  refine ⟨rfl, rfl, ?_⟩
  show ¬ mapped = Bus.reference
  decide

theorem witness_FlagFormulasGiveTheCarries : 9 ≤ 9 ∧ 9 ≤ 16 ∧ (⟨true, false, true, true⟩ : Flags).n = false := by decide

/-- The conditions both ways, for the conditional jumps, calls and returns. -/
theorem witness_conditions : ∀ cc : Cond, (∃ f, condHolds cc f = true) ∧ ∃ f, condHolds cc f = false := by
  intro cc
  cases cc
  · exact ⟨⟨⟨false, false, false, false⟩, rfl⟩, ⟨⟨true, false, false, false⟩, rfl⟩⟩
  · exact ⟨⟨⟨true, false, false, false⟩, rfl⟩, ⟨⟨false, false, false, false⟩, rfl⟩⟩
  · exact ⟨⟨⟨false, false, false, false⟩, rfl⟩, ⟨⟨false, false, false, true⟩, rfl⟩⟩
  · exact ⟨⟨⟨false, false, false, true⟩, rfl⟩, ⟨⟨false, false, false, false⟩, rfl⟩⟩

/-- HALT's three cases: armed, halted after looking, halted without looking. -/
theorem witness_HaltHaltsOrArmsTheBug :
    (let s := irq 0x01 0x01 false (launch []); s.config.haltBug = true ∧ s.ime = false ∧
      s.peek 0xFFFF &&& s.peek 0xFF0F &&& 0x1F ≠ 0) ∧
    (let s := irq 0xE0 0xE0 false (launch []); s.config.haltBug = true ∧ s.ime = false ∧
      s.peek 0xFFFF &&& s.peek 0xFF0F &&& 0x1F = 0) ∧
    (let s := irq 0x01 0x01 true (launch []); ¬ (s.config.haltBug = true ∧ s.ime = false)) := by decide

/-- With IME = 0 and something pending, and with IME = 1 and nothing pending; with the halt bug armed and a fault
recorded. -/
theorem witness_IllegalOpcodesAreRecorded :
    (let s := irq 0x01 0x01 false (launch [0xD3])
     s.isStuck = false ∧ s.halted = false ∧ (s.ime = false ∨ s.pending = 0) ∧ s.checked.peek s.pc = illegalByte .d3) ∧
    (let s := { irq 0x01 0x02 true (launch [0xFD]) with haltBugArmed := true, fault := some ⟨0x0000, 0xED⟩ }
     s.isStuck = false ∧ s.halted = false ∧ (s.ime = false ∨ s.pending = 0) ∧ s.checked.peek s.pc = illegalByte .fd) := by
  decide

/-- IME = 0 with something pending; IME = 1 with nothing pending and the halt bug armed; a halted core that wakes; a bus
other than the reference bus. -/
theorem witness_StepRunsTheDecodedInstruction :
    (let s := irq 0x01 0x01 false (launch [0x06, 0x12])
     s.isStuck = false ∧ s.halted = false ∧ (s.ime = false ∨ s.woken.pending = 0) ∧
     decode s.checked.fetchedBytes = .ok (.ldBD8 0x12) []) ∧
    (let s := irq 0x01 0x02 true { launch [0x06, 0x12] with eiPending := true, haltBugArmed := true }
     s.isStuck = false ∧ s.halted = false ∧ (s.ime = false ∨ s.woken.pending = 0) ∧
     decode s.checked.fetchedBytes = .ok (.ldBD8 0x06) []) ∧
    (let s := irq 0x01 0x01 false { launch [0x06, 0x12] with halted := true }
     s.isStuck = false ∧ s.halted = true ∧ s.pending ≠ 0 ∧ (s.ime = false ∨ s.woken.pending = 0) ∧
     decode s.checked.fetchedBytes = .ok (.ldBD8 0x12) []) ∧
    (let s := launchOn counting [0x06, 0x12]
     s.isStuck = false ∧ s.halted = false ∧ (s.ime = false ∨ s.woken.pending = 0) ∧
     decode s.checked.fetchedBytes = .ok (.ldBD8 0x12) []) := by decide

/-- A recorded fault under `continue`, and under `lock`. -/
theorem witness_StepIsTotal :
    (let s : State := { launch [] with fault := some ⟨0x0100, 0xD3⟩ }
     s.config.illegalPolicy = .goOn ∧ s.stopped = false ∧ s.fault ≠ none) ∧
    (let s : State := { launch [] with config := locking, fault := some ⟨0x0100, 0xD3⟩ }
     s.config.illegalPolicy = .lock ∧ s.fault ≠ none) := by decide

theorem witness_StuckStepsChangeNothing :
    ({ launch [] with stopped := true } : State).stopped = true ∧
    (let s : State := { launch [] with config := locking, fault := some ⟨0x0100, 0xD3⟩ }
     s.config.illegalPolicy = .lock ∧ s.fault ≠ none) := by decide

theorem witness_IdleStepsOnlyRunTheTimer :
    let s := irq 0xFF 0xE0 false { launch [] with halted := true }
    s.isStuck = false ∧ s.halted = true ∧ s.peek 0xFFFF &&& (s.afterRead 0xFFFF).peek 0xFF0F &&& 0x1F = 0 := by decide

/-- With both values of IME; and a bus on which the read of IF clears it, so that the second `pending()` is 0. -/
theorem witness_HaltWakesOnAPendingInterrupt :
    (∀ ime : Bool, let s := irq 0x10 0x10 ime { launch [] with halted := true }
     s.isStuck = false ∧ s.halted = true ∧ s.peek 0xFFFF &&& (s.afterRead 0xFFFF).peek 0xFF0F &&& 0x1F ≠ 0 ∧
     s.ime = ime ∧ ({ (s.afterRead 0xFFFF).afterRead 0xFF0F with halted := false } : State).pending ≠ 0) ∧
    (let clearing : Bus := { Bus.reference with
       onRead := .ifElse (.op .eq .address (.lit 0xFF0F)) (.store .address (.lit 0)) .nothing }
     let s := irq 0x10 0x10 true { launchOn clearing [] with halted := true }
     s.isStuck = false ∧ s.halted = true ∧ s.peek 0xFFFF &&& (s.afterRead 0xFFFF).peek 0xFF0F &&& 0x1F ≠ 0 ∧
     ({ (s.afterRead 0xFFFF).afterRead 0xFF0F with halted := false } : State).pending = 0) := by decide

/-- The lowest source with all pending, and the highest alone, halted or with the halt bug armed. -/
theorem witness_DispatchTakesTheLowestInterrupt :
    (let s := irq 0x1F 0x1F true { launch [] with halted := true }
     let w : State := { (s.afterRead 0xFFFF).afterRead 0xFF0F with halted := false, trace := pendingReads s }
     let p := w.peek 0xFFFF &&& (w.afterRead 0xFFFF).peek 0xFF0F &&& 0x1F
     s.isStuck = false ∧ s.ime = true ∧ s.pending ≠ 0 ∧ s.flat ∧ p.toNat.testBit Irq.vblank.bit = true) ∧
    (let s := irq 0x1F 0xF0 true { launch [] with haltBugArmed := true }
     let w : State := { s with trace := [] }
     let p := w.peek 0xFFFF &&& (w.afterRead 0xFFFF).peek 0xFF0F &&& 0x1F
     s.isStuck = false ∧ s.ime = true ∧ s.halted = false ∧ s.flat ∧ p.toNat.testBit Irq.joypad.bit = true ∧
     ∀ j : Fin 4, p.toNat.testBit j = false) := by
  refine ⟨⟨by decide, by decide, by decide, rfl, by decide⟩, by decide, by decide, by decide, rfl, by decide, by decide⟩

/-- Clause 1 with the delay ending and with DI in its slot; clause 2, an idle step; clause 3, a dispatch
(`step_after` gives the step). -/
theorem witness_EiTakesEffectAfterTheNextInstruction :
    (let s : State := { launch [0x00] with eiPending := true }
     s.isStuck = false ∧ s.halted = false ∧ (s.ime = false ∨ s.woken.pending = 0) ∧
     decode s.checked.fetchedBytes = .ok .nop []) ∧
    (let s : State := { launch [0xF3] with eiPending := true }
     s.isStuck = false ∧ s.halted = false ∧ (s.ime = false ∨ s.woken.pending = 0) ∧
     decode s.checked.fetchedBytes = .ok .di []) ∧
    (after { launch [] with halted := true }).outcome = some (.idle 1) ∧
    (after (irq 0x04 0x04 true (launch []))).outcome = some (.dispatch .timer 5) := by decide

/-- IME set by RETI and by the end of the EI delay; cleared by DI and by a dispatch; `ei_pending` set by EI
(`step_after` gives the step). -/
theorem witness_OnlyTheseEventsChangeIme :
    ((launch [0xD9]).ime = false ∧ (after (launch [0xD9])).ime = true) ∧
    (let s : State := { launch [0x00] with eiPending := true }; s.ime = false ∧ (after s).ime = true) ∧
    (let s : State := { launch [0xF3] with ime := true }; s.ime = true ∧ (after s).ime = false) ∧
    (let s := irq 0x01 0x01 true (launch []); s.ime = true ∧ (after s).ime = false) ∧
    (let s := launch [0xFB]; (after s).eiPending = true ∧ s.eiPending = false) := by decide

theorem witness_OnlyHaltAndStopSuspend :
    (let s := launch [0x76]; s.halted = false ∧ (after s).halted = true) ∧
    (let s := launch [0x10, 0xFF]; s.stopped = false ∧ (after s).stopped = true) ∧
    (let s := irq 0x01 0x01 false (launch [0x76]); s.haltBugArmed = false ∧ (after s).haltBugArmed = true) := by decide

theorem witness_FaultIsStickyUntilReset :
    ({ launch [0xD3] with fault := some ⟨0x0000, 0xED⟩ } : State).fault ≠ none ∧
    ((launch [0xD3]).fault = none ∧ (after (launch [0xD3])).fault ≠ none) ∧
    (∀ p, HostInput.wake ≠ .reset p) ∧
    (let s : State := { launch [] with config := locking, fault := some ⟨0x0100, 0xD3⟩ }
     s.config.illegalPolicy = .lock ∧ s.fault ≠ none) :=
  ⟨by decide, by decide, fun p => by cases p <;> decide, by decide⟩

theorem witness_OwnFieldsDoNotInfluenceTheMachine :
    let s := launch [0x00]
    let s' : State := { s with trace := [.read 0x0000 0x00], opAddr := 0xFFFF, outcome := some .stuck }
    s ≠ s' ∧ s.arch = s'.arch := by decide

/-- A running state and a halted one meet the invariant (`step_after` gives the step). -/
theorem witness_StepKeepsTheInvariant :
    (launch [0x36, 0x12]).Inv ∧
    ({ launch [0x00] with halted := true, divAcc := 255, timaAcc := 1023 } : State).Inv :=
  ⟨⟨by decide, fun _ => by decide, by decide, by decide, by decide, by decide, by decide, fun _ h => by cases h⟩,
    ⟨by decide, fun _ => by decide, by decide, by decide, by decide, by decide, by decide, fun _ h => by cases h⟩⟩

/-- The invariant is met with a fault recorded and with the halt bug armed. -/
theorem witness_EventsKeepTheInvariant :
    ({ launch [0x00] with haltBugArmed := true, fault := some ⟨0x0100, 0xFD⟩ } : State).Inv :=
  ⟨by decide, fun _ => by decide, by decide, by decide, by decide, by decide, by decide, fun _ h => by injection h with h; subst h; decide⟩

/-- A bus other than the reference bus that stores the timer's writes as written. -/
theorem witness_DivCountsEvery256Clocks : StoresTimerWrites mapped := by
  rintro m a v (rfl | rfl | rfl) <;>
    simp [mapped, Bus.read8, Bus.afterWrite8, BusTerm.eval, BusAction.run, BusOp.eval, numberOf, readCall, writeCall,
      addrDiv, addrTima, addrIf]

/-- TIMA running up to the boundary and past it, and switched off. -/
theorem witness_TimaCountsAndReloads :
    (let s := poke 0xFF07 0x05 (poke 0xFF05 0xFE (launch []))
     (s.peek 0xFF07).toNat.testBit 2 = true ∧
     (s.peek 0xFF05).toNat + (s.timaAcc + 4 * 4) / 16 = 255 ∧ (s.peek 0xFF05).toNat + (s.timaAcc + 4 * 8) / 16 = 256) ∧
    (poke 0xFF07 0xFB (launch [])).peek 0xFF07 = 0xFB ∧ (0xFB : Byte).toNat.testBit 2 = false := by decide

theorem witness_TimerTouchesOnlyItsRegisters :
    (∀ x : Word, x = 0xFF06 ∨ x = 0xFF07 → x ≠ 0xFF04 ∧ x ≠ 0xFF05 ∧ x ≠ 0xFF0F) ∧ (1 : Nat) ≠ 2 ∧ (3 : Nat) ≠ 2 := by
  refine ⟨?_, by decide, by decide⟩
  rintro x (rfl | rfl) <;> decide

/-- An address beside a word at the top of memory, whose second byte wraps to 0x0000. -/
theorem witness_BusReturnsTheByteLastWritten :
    let a : Word := 0xFFFF
    (0x0001 : Word) ≠ a ∧ (0x0001 : Word) ≠ a + 1 ∧ (0x0000 : Word) = a + 1 := by decide

theorem witness_HostInputsDoOnlyThis : (launch []).stopped = false := rfl

end Sys2Proof.Tests
end

/-! PROOFS, the scope of the model: what a fetch reads and leaves (R15, R100, R422), and what a bus access changes
(R14, R70 to R77, R84). -/

namespace Sys2Proof.Machine

/-! ### The fetch -/

/-- The state in the middle of a fetch that began in `s`: the reads have left `t`, the next byte stands at `p`, the
opcode's address is latched and the halt bug is disarmed. -/
def State.fetchedTo (s t : State) (p : Word) : State := { t with pc := p, opAddr := s.pc, haltBugArmed := false }

/-- R100, R422: the opcode is read at PC, which stays there with the halt bug armed. -/
theorem State.afterOpcode_eq_fetchedTo (s : State) :
    s.afterOpcode = s.fetchedTo (s.afterRead s.pc) (if s.haltBugArmed then s.pc else s.pc + 1) := rfl

/-- R15: one `fetch8()` reads at PC and advances PC by 1. -/
theorem State.fetch_one_fetchedTo (s t : State) (p : Word) :
    State.nextBytes 1 (s.fetchedTo t p) = [t.peek p] ∧
    State.afterBytes 1 (s.fetchedTo t p) = s.fetchedTo (t.afterRead p) (p + 1) := ⟨rfl, rfl⟩

/-- The bytes of two `fetch8()`, the second read in the state the first leaves, and the state after them. -/
theorem State.fetch_two_fetchedTo (s t : State) (p : Word) :
    State.nextBytes 2 (s.fetchedTo t p) = [t.peek p, (t.afterRead p).peek (p + 1)] ∧
    State.afterBytes 2 (s.fetchedTo t p) = s.fetchedTo ((t.afterRead p).afterRead (p + 1)) (p + 2) := by
  have hpc : p + 1 + 1 = p + 2 := by rw [BitVec.add_assoc]; rfl
  exact ⟨rfl, hpc ▸ rfl⟩

/-- Settles O39: an opcode asks for one, two or three bytes, and each byte after the opcode is one `fetch8()`. -/
theorem fetchReadsTheBytesAtPc : Obligations.FetchReadsTheBytesAtPc := by
  intro s
  have hbytes : s.fetchedBytes = s.peek s.pc :: State.nextBytes (opLength (s.peek s.pc) - 1) s.afterOpcode := rfl
  have hafter : s.afterFetch = State.afterBytes (opLength (s.peek s.pc) - 1) s.afterOpcode := rfl
  rw [State.afterOpcode_eq_fetchedTo] at hbytes hafter
  dsimp only
  generalize (if s.haltBugArmed then s.pc else s.pc + 1) = base at hbytes hafter ⊢
  obtain hn | hn | hn := opLength_cases (s.peek s.pc) <;> rw [hn] at hbytes hafter ⊢
  · exact ⟨hbytes, hafter.trans (congrArg (s.fetchedTo (s.afterRead s.pc)) (BitVec.add_zero base).symm)⟩
  · obtain ⟨hbyte, hstate⟩ := State.fetch_one_fetchedTo s (s.afterRead s.pc) base
    exact ⟨hbytes.trans (congrArg _ hbyte), hafter.trans hstate⟩
  · obtain ⟨hbyte, hstate⟩ := State.fetch_two_fetchedTo s (s.afterRead s.pc) base
    exact ⟨hbytes.trans (congrArg _ hbyte), hafter.trans hstate⟩

/-! ### The bus -/

/-- R72, R84: on the reference bus a word written is read back. -/
theorem State.peek16_write16_of_flat {s : State} (h : s.flat) (a v : Word) : (s.write16 a v).peek16 a = v := by
  obtain ⟨hlow, hhigh, -⟩ := storesWord_write16 h a v
  rw [State.peek16_of_flat (by exact h), hlow, hhigh, concat16_high_low]

/-- Settles O58: on every bus an access is by definition what the bus's own functions say; on the reference bus the
laws of reading after an access hold. -/
theorem busReturnsTheByteLastWritten : Obligations.BusReturnsTheByteLastWritten := by
  refine ⟨fun s a v w => ⟨rfl, rfl, rfl, rfl, rfl, rfl, rfl⟩, fun s a x v w hf => ?_⟩
  obtain ⟨hlow, hhigh, hother⟩ := storesWord_write16 hf a v
  exact ⟨State.afterRead_of_flat hf a, State.peek_afterRead_of_flat hf a x,
    State.peek_writeAs_of_flat hf false a x w, State.peek_writeAs_of_flat hf true a x w,
    hlow, hhigh, State.peek16_write16_of_flat hf a v, hother x⟩

end Sys2Proof.Machine

/-! PROOFS, the state (10_state.md): what one step can do to IME, the EI delay, the suspensions, the fault and the
parameters (R40 to R47); the invariant; registers, pairs and flags (R30 to R35). -/

namespace Sys2Proof.Machine

/-! ### What the parts of a step leave alone -/

/-- The timer changes its sub-counters, the bus and the record of accesses, and nothing else. -/
theorem timer_frame_self (m : Nat) (s : State) : State.timer m s = { s with
    mem := (State.timer m s).mem, divAcc := (State.timer m s).divAcc, timaAcc := (State.timer m s).timaAcc
    trace := (State.timer m s).trace } := by
  obtain ⟨_, h, -⟩ := timer_frame m s
  generalize State.timer m s = t at h ⊢
  rw [h]

/-- R405: the end of the EI delay sets IME, and a delay pending at the start of the instruction is over. -/
theorem State.finishEi_frame (arm : Bool) (u : State) : u.finishEi arm = { u with
    ime := u.ime || (arm && u.eiPending), eiPending := u.eiPending && !arm } := by
  rw [State.finishEi_eq]
  cases arm with
  | false => simp
  | true =>
    by_cases hu : u.eiPending = true
    · simp [hu]
    · rw [Bool.not_eq_true] at hu
      simp only [Bool.true_and, hu, Bool.or_false, Bool.false_and, Bool.false_eq_true, if_false]
      rw [← hu]

/-- The end of part 4 of R400 changes IME and `ei_pending`, and what the timer changes. -/
theorem State.retire_frame (arm : Bool) (u : State) : u.retire arm = { u with
    ime := u.ime || (arm && u.eiPending), eiPending := u.eiPending && !arm
    mem := (u.retire arm).mem, divAcc := (u.retire arm).divAcc, timaAcc := (u.retire arm).timaAcc
    trace := (u.retire arm).trace } := by
  have h : u.retire arm = _ := timer_frame_self u.cycles (u.finishEi arm)
  change u.retire arm = { u.finishEi arm with
    mem := (u.retire arm).mem, divAcc := (u.retire arm).divAcc, timaAcc := (u.retire arm).timaAcc
    trace := (u.retire arm).trace } at h
  rwa [u.finishEi_frame] at h

/-- R400, R100: an instruction runs with the core awake and the halt bug disarmed; otherwise the checks and the fetch
change the bus, PC and the model's own fields alone. -/
theorem State.afterFetch_checked_frame (s : State) : s.checked.afterFetch = { s with
    mem := s.checked.afterFetch.mem, pc := s.checked.afterFetch.pc, trace := s.checked.afterFetch.trace
    opAddr := s.pc, haltBugArmed := false, halted := false } := by
  have hfetch := (State.afterFetch_frame s.checked).regs
  generalize s.checked.afterFetch = v at hfetch ⊢
  exact hfetch.trans (by rw [s.checked_frame])

/-- R416: what a dispatch step changes, the checks before it included. -/
theorem dispatchStep_checked_frame (k : Irq) (s : State) : dispatchStep k s.checked = { s with
    mem := (dispatchStep k s.checked).mem, divAcc := (dispatchStep k s.checked).divAcc
    timaAcc := (dispatchStep k s.checked).timaAcc, trace := (dispatchStep k s.checked).trace
    sp := s.sp - 2, pc := k.vector, ime := false, eiPending := false, haltBugArmed := false, halted := false
    outcome := some (.dispatch k 5) } := by
  obtain ⟨_, h, -⟩ := dispatchStep_frame k s.checked
  generalize dispatchStep k s.checked = t at h ⊢
  rw [s.checked_frame] at h
  rw [h]

/-- R403: a core that is not stuck is not stopped. -/
theorem State.stopped_of_not_stuck {s : State} (h : s.isStuck = false) : s.stopped = false := by
  simp only [State.isStuck, Bool.or_eq_false_iff] at h
  exact h.1

/-- R404: under `lock` a recorded fault makes the core stuck. -/
theorem State.isStuck_of_locked {s : State} (hlock : s.config.illegalPolicy = .lock) (hfault : s.fault ≠ none) :
    s.isStuck = true := by
  simp [State.isStuck, hlock, Option.isSome_iff_ne_none.2 hfault]

/-! ### What a step can do -/

/-- The next states of a step, by the parts of R400. -/
inductive State.StepsTo (s : State) : State → Prop
  /-- Part 1. -/
  | stuck : s.isStuck = true → s.StepsTo { s with trace := [], outcome := some .stuck }
  /-- Part 2, nothing pending. -/
  | idle : s.isStuck = false →
      s.StepsTo (State.timer 1 { ({ s with trace := [] } : State).afterPending with outcome := some (.idle 1) })
  /-- Part 3, an interrupt taken. -/
  | dispatch (k : Irq) : s.isStuck = false → s.StepsTo (dispatchStep k s.checked)
  /-- Part 4: the instruction `i` ends in `u`, then the EI delay and the timer follow. -/
  | execute (i : Instr) (u : State) : s.isStuck = false → decode s.checked.fetchedBytes = .ok i [] →
      exec i s.checked.afterFetch = .next u → s.StepsTo (u.retire s.eiPending)

/-- Every step is one of them. -/
theorem stepsTo_of_step {s t : State} (h : step s = .next t) : s.StepsTo t := by
  obtain ⟨hs, e⟩ | ⟨hs, -, -, e⟩ | ⟨hs, -, -, -, k, -, e⟩ | ⟨hs, -, -, e⟩ := step_cases s
  · cases h.symm.trans e
    exact .stuck hs
  · cases h.symm.trans e
    exact .idle hs
  · cases h.symm.trans e
    exact .dispatch k hs
  · obtain ⟨i, u, hdecode, hexec, hstep⟩ := executeOne_eq s.checked
    have hei : s.checked.eiPending = s.eiPending := by rw [s.checked_frame]
    cases h.symm.trans (e.trans hstep)
    exact hei ▸ .execute i u hs hdecode hexec

/-! ### The invariant -/

/-- The part of the invariant that speaks of the bus. -/
theorem State.Inv.busOk {s : State} (h : s.Inv) : BusOk s.config.bus s.mem := ⟨h.memory, h.flatStorage⟩

/-- What leaves the control state and the parameters alone, the bus in order and the sub-counters in range keeps the
invariant. -/
theorem State.Inv.of_controlKept {s t : State} (h : s.Inv) (hc : ControlKept s t) (hconfig : t.config = s.config)
    (hbus : KeepsBus s t) (hdiv : t.divAcc < 256) (htima : t.timaAcc < 1024) : t.Inv where
  memory := (hbus h.busOk).wf
  flatStorage := (hbus h.busOk).flat
  divAcc := hdiv
  timaAcc := htima
  haltedAlone := by rw [hc.halted, hc.stopped, hc.haltBugArmed, hc.eiPending]; exact h.haltedAlone
  stoppedAlone := by rw [hc.stopped, hc.haltBugArmed, hc.eiPending]; exact h.stoppedAlone
  armedAlone := by rw [hc.haltBugArmed, hconfig, hc.eiPending]; exact h.armedAlone
  faultIllegal := by rw [hc.fault]; exact h.faultIllegal

/-- The model's own record and outcome play no part in the invariant. -/
theorem State.Inv.withOwn {s : State} (h : s.Inv) (tr : List BusAccess) (o : Option StepOutcome) :
    ({ s with trace := tr, outcome := o } : State).Inv := { h with }

/-- R431, R46: the timer keeps the invariant. -/
theorem State.Inv.timer {s : State} (h : s.Inv) (m : Nat) : (State.timer m s).Inv := by
  refine h.of_controlKept ?_ ?_ (timer_keepsBus m s) ?_ (timer_timaAcc_lt m s h.timaAcc)
  · rw [timer_frame_self]
    exact ⟨rfl, rfl, rfl, rfl, rfl, rfl⟩
  · rw [timer_frame_self]
  · rw [timer_divAcc]
    exact Nat.mod_lt _ (by decide)

/-- R411: `pending()` keeps the invariant. -/
theorem State.Inv.afterPending {s : State} (h : s.Inv) : s.afterPending.Inv :=
  h.of_controlKept ⟨rfl, rfl, rfl, rfl, rfl, rfl⟩ rfl s.afterPending_keepsBus h.divAcc h.timaAcc

/-- R421: a halted core that wakes meets the invariant. -/
theorem State.Inv.awake {s : State} (h : s.Inv) : ({ s with halted := false } : State).Inv :=
  { h with haltedAlone := nofun }

/-- R422: so does a core whose halt bug is disarmed. -/
theorem State.Inv.disarmed {s : State} (h : s.Inv) : ({ s with haltBugArmed := false } : State).Inv :=
  { h with
    haltedAlone := fun hh => ⟨(h.haltedAlone hh).1, rfl, (h.haltedAlone hh).2.2⟩
    stoppedAlone := fun hs => ⟨rfl, (h.stoppedAlone hs).2⟩
    armedAlone := nofun }

/-- R400: the checks before an instruction or a dispatch keep the invariant. -/
theorem State.Inv.checked {s : State} (h : s.Inv) : s.checked.Inv := by
  refine h.awake.of_controlKept ?_ ?_ s.checked_keepsBus ?_ ?_
  · rw [s.checked_frame]
    exact ⟨rfl, rfl, rfl, rfl, rfl, rfl⟩
  · rw [s.checked_frame]
  · rw [s.checked_frame]
    exact h.divAcc
  · rw [s.checked_frame]
    exact h.timaAcc

/-- R15, R100: the fetch keeps the invariant. -/
theorem State.Inv.afterFetch {s : State} (h : s.Inv) : s.afterFetch.Inv := by
  have hfetch := s.afterFetch_frame
  refine h.disarmed.of_controlKept ?_ ?_ hfetch.bus ?_ ?_
  · rw [hfetch.regs]
    exact ⟨rfl, rfl, rfl, rfl, rfl, rfl⟩
  · rw [hfetch.regs]
  · rw [hfetch.regs]
    exact h.divAcc
  · rw [hfetch.regs]
    exact h.timaAcc

/-- R416: taking an interrupt keeps the bus in order. -/
theorem State.takeInterrupt_keepsBus (k : Irq) (s : State) : KeepsBus s (s.takeInterrupt k) :=
  fun h => (h.read_write false addrIf addrIf _).write_write false false _ _ _ _

/-- R416: taking an interrupt ends the EI delay and disarms the halt bug, so from a core that runs it keeps the
invariant. -/
theorem State.Inv.takeInterrupt {s : State} (h : s.Inv) (hhalted : s.halted = false) (hstopped : s.stopped = false)
    (k : Irq) : (s.takeInterrupt k).Inv := by
  have hbus : BusOk (s.takeInterrupt k).config.bus (s.takeInterrupt k).mem := s.takeInterrupt_keepsBus k h.busOk
  refine ⟨hbus.wf, hbus.flat, ?_, ?_, ?_, ?_, ?_, ?_⟩ <;> rw [s.takeInterrupt_frame]
  · exact h.divAcc
  · exact h.timaAcc
  · exact fun hh => absurd (hhalted.symm.trans hh) nofun
  · exact fun hs => absurd (hstopped.symm.trans hs) nofun
  · exact nofun
  · exact h.faultIllegal

/-- R115: the byte of an illegal slot is one of the eleven opcodes. -/
theorem illegalByte_mem (k : IllegalSlot) : illegalByte k ∈ illegalOpcodes := by cases k <;> decide

/-- R344, R405: only EI begins an EI delay. -/
theorem Ctl.eiPending_of_ne {i : Instr} {v u : State} (h : Ctl i v u) (hdi : i ≠ .di) (hei : i ≠ .ei) :
    u.eiPending = v.eiPending := by
  obtain he | ⟨hi, -⟩ | ⟨hi, -⟩ := h.eip
  · exact he
  · exact absurd hi hdi
  · exact absurd hi hei

/-- R400 part 4, R405: from a core that runs with the halt bug disarmed, an instruction suspends the core or arms the
bug in one way at most, and the end of the EI delay leaves no delay pending then. -/
theorem State.Inv.instruction {i : Instr} {v u : State} (h : v.Inv) (hhalted : v.halted = false)
    (hstopped : v.stopped = false) (harmed : v.haltBugArmed = false) (hexec : exec i v = .next u) :
    (u.finishEi v.eiPending).Inv := by
  obtain ⟨hkept, hctl⟩ := exec_ctl hexec
  have hbus : BusOk u.config.bus u.mem := hkept.memory h.busOk
  have hdelay : u.eiPending = v.eiPending → (u.eiPending && !v.eiPending) = false := fun e => by simp [e]
  rw [u.finishEi_frame]
  refine ⟨hbus.wf, hbus.flat, ?_, ?_, ?_, ?_, ?_, ?_⟩ <;> dsimp only
  · exact hkept.divAcc ▸ h.divAcc
  · exact hkept.timaAcc ▸ h.timaAcc
  · intro hu
    obtain e | ⟨-, -, he, hs, -, ha⟩ := hctl.halted
    · exact absurd (hu.symm.trans (e.trans hhalted)) nofun
    · exact ⟨hs.trans hstopped, ha.trans harmed, hdelay he⟩
  · intro hu
    obtain e | ⟨⟨x, rfl⟩, -, -, ha⟩ := hctl.stopped
    · exact absurd (hu.symm.trans (e.trans hstopped)) nofun
    · exact ⟨ha.trans harmed, hdelay (hctl.eiPending_of_ne nofun nofun)⟩
  · intro hu
    obtain e | ⟨-, hbug, -, -, he, -, -⟩ := hctl.armed
    · exact absurd (hu.symm.trans (e.trans harmed)) nofun
    · exact ⟨hkept.config ▸ hbug, hdelay he⟩
  · obtain e | ⟨k, -, -, e⟩ := hctl.fault <;> rw [e]
    · exact h.faultIllegal
    · rintro r ⟨⟩
      exact illegalByte_mem k

/-- Settles O50: each part of the step keeps the invariant. -/
theorem stepKeepsTheInvariant : Obligations.StepKeepsTheInvariant := by
  intro s t hinv hstep
  have hrun : s.isStuck = false → s.checked.stopped = false := fun hs => by
    rw [s.checked_frame]
    exact State.stopped_of_not_stuck hs
  have hawake : s.checked.halted = false := by rw [s.checked_frame]
  cases stepsTo_of_step hstep with
  | stuck _ => exact hinv.withOwn [] _
  | idle _ => exact ((hinv.withOwn [] s.outcome).afterPending.withOwn _ _).timer 1
  | dispatch k hs => exact ((hinv.checked.takeInterrupt hawake (hrun hs) k).withOwn _ _).timer 5
  | execute i u hs _ hexec =>
    have hkeep := hinv.checked.afterFetch.instruction (i := i) (u := u)
    rw [s.afterFetch_checked_frame] at hkeep hexec
    exact (hkeep rfl (State.stopped_of_not_stuck hs) rfl hexec).timer _

/-! ### IME, the fault and the parameters -/

/-- Settles O46: IME and `ei_pending` follow the instruction alone, the end of the EI delay and the dispatch. -/
theorem onlyTheseEventsChangeIme : Obligations.OnlyTheseEventsChangeIme := by
  intro s t hstep
  cases stepsTo_of_step hstep with
  | stuck _ => simp_all
  | idle _ => rw [timer_frame_self]; simp_all
  | dispatch k _ => rw [dispatchStep_checked_frame]; simp
  | execute i u _ hdecode hexec =>
    have hctl := (exec_ctl hexec).2
    rw [s.afterFetch_checked_frame] at hctl
    rw [u.retire_frame]
    refine ⟨fun hs ht => ?_, fun hs ht => .inr ?_, fun ht hs => ?_⟩
    · obtain hu | ⟨-, hu⟩ | ⟨rfl, -⟩ := hctl.ime
      · simp_all
      · simp_all
      · exact .inr ⟨[], hdecode⟩
    · obtain hu | ⟨rfl, -⟩ | ⟨-, hu⟩ := hctl.ime
      · simp_all
      · exact ⟨[], hdecode⟩
      · simp_all
    · obtain hu | ⟨-, hu⟩ | ⟨rfl, -⟩ := hctl.eip
      · simp_all
      · simp_all
      · exact ⟨[], hdecode⟩

/-- R505: no step changes the parameters. -/
theorem step_config {s t : State} (hstep : step s = .next t) : t.config = s.config := by
  cases stepsTo_of_step hstep with
  | stuck _ => rfl
  | idle _ => rw [timer_frame_self]; rfl
  | dispatch k _ => rw [dispatchStep_checked_frame]
  | execute i u _ _ hexec =>
    have hkept := (exec_ctl hexec).1.config
    rw [s.afterFetch_checked_frame] at hkept
    rw [u.retire_frame]
    exact hkept

/-- R47, R360: a step keeps the marker, or records the first illegal opcode, with its address. -/
theorem step_fault {s t : State} (hstep : step s = .next t) : t.fault = s.fault ∨
    ∃ k, decode s.checked.fetchedBytes = .ok (Instr.illegal k) [] ∧ s.fault = none ∧
      t.fault = some ⟨s.pc, illegalByte k⟩ := by
  cases stepsTo_of_step hstep with
  | stuck _ => exact .inl rfl
  | idle _ => rw [timer_frame_self]; exact .inl rfl
  | dispatch k _ => rw [dispatchStep_checked_frame]; exact .inl rfl
  | execute i u _ hdecode hexec =>
    have hctl := (exec_ctl hexec).2
    rw [s.afterFetch_checked_frame] at hctl
    rw [u.retire_frame]
    obtain e | ⟨k, rfl, hs, e⟩ := hctl.fault
    · exact .inl e
    · exact .inr ⟨k, hdecode, hs, e⟩

/-- R438: no input of the host changes the parameters. -/
theorem applyInput_config (x : HostInput) (s : State) : (applyInput x s).config = s.config := by
  cases x with
  | reset p => cases p <;> rfl
  | _ => rfl

/-- R438, R47: no input of the host but reset changes the marker. -/
theorem applyInput_fault {x : HostInput} (hx : ∀ p, x ≠ .reset p) (s : State) : (applyInput x s).fault = s.fault := by
  cases x with
  | reset p => exact absurd rfl (hx p)
  | _ => rfl

/-- Settles O48: the marker is kept by every step once it is set. -/
theorem faultIsStickyUntilReset : Obligations.FaultIsStickyUntilReset := by
  refine ⟨rfl, fun s t hstep => ⟨step_config hstep, fun hs => ?_, fun hs ht => ?_⟩,
    fun s x => ⟨applyInput_config x s, fun hx => applyInput_fault hx s⟩, fun s p => by cases p <;> rfl,
    fun s hlock hfault => if_pos (State.isStuck_of_locked hlock hfault)⟩
  · obtain e | ⟨_, -, hnone, -⟩ := step_fault hstep
    · exact e
    · exact absurd hnone hs
  · obtain e | ⟨k, hdecode, -, e⟩ := step_fault hstep
    · exact absurd (e.trans hs) ht
    · exact ⟨k, [], hdecode, e⟩

/-! ### Registers, pairs and flags -/

/-- R34: the value of F, bit by bit. -/
theorem Flags.toNat_toByte (f : Flags) :
    f.toByte.toNat = 128 * f.z.toNat + 64 * f.n.toNat + 32 * f.h.toNat + 16 * f.c.toNat := by
  obtain ⟨z, n, h, c⟩ := f
  revert z n h c
  decide

/-- R31, R35: masking the low byte of a word. -/
theorem concat16_highByte_and (v : Word) : concat16 (highByte v) (lowByte v &&& 0xF0) = v &&& 0xFFF0 := by
  calc concat16 (highByte v) (lowByte v &&& 0xF0)
      = concat16 (highByte v &&& 0xFF) (lowByte v &&& 0xF0) := by
        rw [show (0xFF : Byte) = BitVec.allOnes 8 from rfl, BitVec.and_allOnes]
    _ = concat16 (highByte v) (lowByte v) &&& concat16 0xFF 0xF0 := BitVec.and_append.symm
    _ = v &&& 0xFFF0 := by rw [concat16_high_low]; rfl

/-- A write of an 8-bit register changes 8-bit registers alone. -/
theorem State.setReg8_frame (s : State) (r : Reg8) (x : Byte) : s.setReg8 r x = { s with
    a := (s.setReg8 r x).a, b := (s.setReg8 r x).b, c := (s.setReg8 r x).c, d := (s.setReg8 r x).d
    e := (s.setReg8 r x).e, h := (s.setReg8 r x).h, l := (s.setReg8 r x).l } := by
  cases r <;> rfl

/-- Settles O57: which field each name selects is the definition; the rest are the laws of halves and of F. -/
theorem registersPairsAndFlags : Obligations.RegistersPairsAndFlags := by
  intro s v r q x
  have hf : (s.setAf v).f.toByte = lowByte v &&& 0xF0 := Flags.toByte_ofByte (lowByte v)
  refine ⟨⟨rfl, rfl, rfl, rfl, rfl, rfl, rfl⟩, ⟨rfl, rfl, rfl, rfl, rfl, rfl, rfl⟩, ⟨rfl, rfl, rfl, rfl⟩,
    ⟨rfl, rfl, rfl, rfl⟩, ⟨rfl, rfl, rfl, rfl⟩, ⟨rfl, rfl, rfl, rfl⟩, rfl, rfl, rfl, rfl,
    rfl, concat16_high_low v, rfl, concat16_high_low v, rfl, concat16_high_low v, ⟨_, rfl⟩, hf, ?_,
    s.f.toNat_toByte, s.reg8_setReg8 r q x, s.setReg8_frame r x⟩
  rw [State.af, hf]
  exact concat16_highByte_and v

end Sys2Proof.Machine

/-! PROOFS, the encoding (30_encoding.md): the bytes of each row by its fields, the decoder's answer to them and the
round trip in both directions (R101 to R118); the cycles, flags and length of each cell (R112, R113). -/

namespace Sys2Proof.Machine

/-! ### Fields and codes (R103 to R110) -/

/-- Case analysis over an 8-bit operand in the order of its codes (R104). -/
theorem opnd8_by_code {motive : Opnd8 → Prop} (b : motive (.reg .b)) (c : motive (.reg .c)) (d : motive (.reg .d))
    (e : motive (.reg .e)) (h : motive (.reg .h)) (l : motive (.reg .l)) (atHl : motive .atHl) (a : motive (.reg .a))
    (o : Opnd8) : motive o := by
  cases o with
  | atHl => exact atHl
  | reg r => cases r <;> assumption

/-- The byte of fields `xx yyy zzz` (R103, R114). -/
def opcode (x y z : Nat) : Byte := byteOf (64 * x + 8 * y + z)

/-- A byte is its three fields. -/
theorem opcode_fields : ∀ op : Byte, opcode (field op 6 2) (field op 3 3) (field op 0 3) = op := by decide

/-- The ranges of the three fields. -/
theorem fields_lt (op : Byte) : field op 6 2 < 4 ∧ field op 3 3 < 8 ∧ field op 0 3 < 8 :=
  ⟨(op.extractLsb' 6 2).isLt, (op.extractLsb' 3 3).isLt, (op.extractLsb' 0 3).isLt⟩

theorem opndCode_opnd8OfCode : ∀ n < 8, opndCode (opnd8OfCode n) = n := by decide
theorem aluCode_aluOfCode : ∀ n < 8, aluCode (aluOfCode n) = n := by decide
theorem rotCode_rotOfCode : ∀ n < 8, rotCode (rotOfCode n) = n := by decide
theorem bitIndex_bitOfCode : ∀ n < 8, bitIndex (bitOfCode n) = n := by decide

/-! ### The bytes of each row -/

/-- R260, R262, R263: the bytes of block 01. -/
theorem encode_ld8 (dst o : Opnd8) : encode (.ld8 dst o) = [opcode 1 (opndCode dst) (opndCode o)] := by
  cases dst using opnd8_by_code <;> cases o using opnd8_by_code <;> rfl

/-- R107: the bytes of block 10. -/
theorem encode_alu (op : AluOp) (o : Opnd8) : encode (.alu op o) = [opcode 2 (aluCode op) (opndCode o)] := by
  cases op <;> cases o using opnd8_by_code <;> rfl

/-- R110: the bytes of the rotates and shifts. -/
theorem encode_rot (op : RotOp) (o : Opnd8) : encode (.rot op o) = [0xCB, opcode 0 (rotCode op) (opndCode o)] := by
  cases op <;> cases o using opnd8_by_code <;> rfl

/-- R109: the bytes of BIT. -/
theorem encode_bit (b : BitNo) (o : Opnd8) : encode (.bit b o) = [0xCB, opcode 1 (bitIndex b) (opndCode o)] := by
  cases b <;> cases o using opnd8_by_code <;> rfl

/-- R109: the bytes of RES. -/
theorem encode_res (b : BitNo) (o : Opnd8) : encode (.res b o) = [0xCB, opcode 2 (bitIndex b) (opndCode o)] := by
  cases b <;> cases o using opnd8_by_code <;> rfl

/-- R109: the bytes of SET. -/
theorem encode_set (b : BitNo) (o : Opnd8) : encode (.set b o) = [0xCB, opcode 3 (bitIndex b) (opndCode o)] := by
  cases b <;> cases o using opnd8_by_code <;> rfl

/-- R115: the byte of an illegal slot is its opcode. -/
theorem encode_illegal (k : IllegalSlot) : encode (.illegal k) = [illegalByte k] := by cases k <;> rfl

/-! ### The tables' entries encode to the bytes they were found by -/

/-- R109: each group of the extended table puts the codes of its fields back. -/
theorem encode_cbEntry (op2 : Byte) : encode (cbEntry op2) = [0xCB, op2] := by
  obtain ⟨hx, hy, hz⟩ := fields_lt op2
  have hop := opcode_fields op2
  unfold cbEntry
  generalize field op2 6 2 = x, field op2 3 3 = y, field op2 0 3 = z at *
  subst hop
  have ho := opndCode_opnd8OfCode z hz
  interval_cases x
  · exact (encode_rot _ _).trans (by rw [rotCode_rotOfCode y hy, ho])
  · exact (encode_bit _ _).trans (by rw [bitIndex_bitOfCode y hy, ho])
  · exact (encode_res _ _).trans (by rw [bitIndex_bitOfCode y hy, ho])
  · exact (encode_set _ _).trans (by rw [bitIndex_bitOfCode y hy, ho])

/-- Two bytes are the halves of a word. -/
theorem exists_halves (b1 b2 : Byte) : ∃ v : Word, lowByte v = b1 ∧ highByte v = b2 :=
  ⟨concat16 b2 b1, lowByte_concat16 b2 b1, highByte_concat16 b2 b1⟩

/-- R114: the rows of block 00 encode to their opcode and the bytes it asks for. -/
theorem encode_baseBlock0 {y z : Nat} (hy : y < 8) (hz : z < 8) (b1 b2 : Byte) :
    encode (baseBlock0 y z b1 b2) = [opcode 0 y z, b1, b2].take (opLength (opcode 0 y z)) := by
  obtain ⟨v, rfl, rfl⟩ := exists_halves b1 b2
  unfold baseBlock0
  rw [concat16_high_low]
  interval_cases z <;> interval_cases y <;> rfl

/-- R114, R115: so do the rows of block 11, `prefixCb` and the illegal slots among them. -/
theorem encode_baseBlock3 {y z : Nat} (hy : y < 8) (hz : z < 8) (b1 b2 : Byte) :
    encode (baseBlock3 y z b1 b2) = [opcode 3 y z, b1, b2].take (opLength (opcode 3 y z)) := by
  obtain ⟨v, rfl, rfl⟩ := exists_halves b1 b2
  unfold baseBlock3
  rw [concat16_high_low]
  interval_cases z <;> interval_cases y <;> rfl

/-- R102, R114: every opcode of the blocks 01 and 10 is an instruction of one byte. -/
theorem opLength_opcode_inner : ∀ y < 8, ∀ z < 8, opLength (opcode 1 y z) = 1 ∧ opLength (opcode 2 y z) = 1 := by
  decide +kernel

/-- R101, R102: the base table's entry encodes to the opcode and the bytes it asks for. -/
theorem encode_baseEntry (op b1 b2 : Byte) : encode (baseEntry op b1 b2) = [op, b1, b2].take (opLength op) := by
  obtain ⟨hx, hy, hz⟩ := fields_lt op
  have hop := opcode_fields op
  unfold baseEntry
  generalize field op 6 2 = x, field op 3 3 = y, field op 0 3 = z at *
  subst hop
  obtain ⟨hld, halu⟩ := opLength_opcode_inner y hy z hz
  have ho := opndCode_opnd8OfCode z hz
  interval_cases x
  · exact encode_baseBlock0 hy hz b1 b2
  · exact (encode_ld8 _ _).trans (by rw [opndCode_opnd8OfCode y hy, ho, hld]; rfl)
  · exact (encode_alu _ _).trans (by rw [aluCode_aluOfCode y hy, ho, halu]; rfl)
  · exact encode_baseBlock3 hy hz b1 b2

/-- R101: every entry but `prefixCb` is a decoded instruction. -/
theorem wellFormed_of_ne_prefixCb {i : Instr} (h : ∀ op2, i ≠ .prefixCb op2) : i.wellFormed = true := by
  unfold Instr.wellFormed
  split
  · exact absurd rfl (h _)
  · rfl

/-- R109: the extended table has no `prefixCb`. -/
theorem cbEntry_wellFormed : ∀ op2 : Byte, (cbEntry op2).wellFormed = true := by decide +kernel

/-- R101, R345: the second level of decoding leaves no `prefixCb` and changes no byte. -/
theorem resolve_spec (i : Instr) : i.resolve.wellFormed = true ∧ encode i.resolve = encode i := by
  unfold Instr.resolve
  split
  · exact ⟨cbEntry_wellFormed _, encode_cbEntry _⟩
  next hne => exact ⟨wellFormed_of_ne_prefixCb hne, rfl⟩

/-! ### The instructions are found by their bytes -/

/-- R101: from its first byte and what follows, whatever that is, the two tables find this instruction. -/
def FoundInTables (i : Instr) : Prop :=
  ∀ rest : List Byte, ∃ op tail, encode i = op :: tail ∧
    (baseEntry op ((tail ++ rest).getD 0 0) ((tail ++ rest).getD 1 0)).resolve = i

/-- R101: the bytes of the base table's rows are found in it. -/
theorem FoundInTables.of_baseEntry {i : Instr} {op : Byte} {tail : List Byte} (hbytes : encode i = op :: tail)
    (hentry : ∀ rest : List Byte, (baseEntry op ((tail ++ rest).getD 0 0) ((tail ++ rest).getD 1 0)).resolve = i) :
    FoundInTables i := fun rest => ⟨op, tail, hbytes, hentry rest⟩

/-- R101: the bytes 0xCB xx are found in the extended table. -/
theorem FoundInTables.of_cbEntry {i : Instr} {op2 : Byte} (hbytes : encode i = [0xCB, op2]) (hentry : cbEntry op2 = i) :
    FoundInTables i := fun _ => ⟨0xCB, [op2], hbytes, hentry⟩

/-- R101, R103 to R111: the tables' entry for the bytes of a decoded instruction is that instruction; a 16-bit
immediate is put together from its halves. -/
theorem foundInTables {i : Instr} (h : i.wellFormed = true) : FoundInTables i := by
  cases i using Instr.by_rows with
  | prefixCb v => exact absurd h Bool.false_ne_true
  | rot op o | bit op o | res op o | set op o =>
    cases op <;> cases o using opnd8_by_code <;> exact .of_cbEntry rfl rfl
  | alu op o => cases op <;> cases o using opnd8_by_code <;> exact .of_baseEntry rfl fun _ => rfl
  | inc8 o | dec8 o => cases o using opnd8_by_code <;> exact .of_baseEntry rfl fun _ => rfl
  | ldReg r q => cases r <;> cases q <;> exact .of_baseEntry rfl fun _ => rfl
  | ldFromHl r | ldToHl r | ld8ImmReg r v => cases r <;> exact .of_baseEntry rfl fun _ => rfl
  | aluImm op v => cases op <;> exact .of_baseEntry rfl fun _ => rfl
  | addHl p | incPair p | decPair p | push p | pop p => cases p <;> exact .of_baseEntry rfl fun _ => rfl
  | jrCc cc v | retCc cc => cases cc <;> exact .of_baseEntry rfl fun _ => rfl
  | rst t | illegal t => cases t <;> exact .of_baseEntry rfl fun _ => rfl
  | ldPair p v => cases p <;> exact .of_baseEntry rfl fun _ => congrArg _ (concat16_high_low v)
  | jpCc cc v | callCc cc v => cases cc <;> exact .of_baseEntry rfl fun _ => congrArg _ (concat16_high_low v)
  | ldAtA16Sp v | jpA16 v | callA16 v | ldAtA16A v | ldAAtA16 v =>
    exact .of_baseEntry rfl fun _ => congrArg _ (concat16_high_low v)
  | _ => exact .of_baseEntry rfl fun _ => rfl

/-- R102: what is found in the tables has the length its first byte asks for. -/
theorem FoundInTables.length {i : Instr} (h : FoundInTables i) : Laws.Length.Statement i := by
  obtain ⟨op, tail, hbytes, hentry⟩ := h []
  have hhead : (encode i).headD 0 = op := by rw [hbytes]; rfl
  change (encode i).length = opLength ((encode i).headD 0)
  rw [hhead, ← hentry, (resolve_spec _).2, encode_baseEntry]
  obtain hop | hop | hop := opLength_cases op <;> rw [hop] <;> rfl

/-- R102: the length of an encoding is the one its first byte asks for. -/
theorem length_encode (i : Instr) : Laws.Length.Statement i := by
  by_cases h : i.wellFormed = true
  · exact (foundInTables h).length
  · obtain ⟨op2, rfl⟩ : ∃ op2, i = .prefixCb op2 := by
      by_contra hne
      exact h (wellFormed_of_ne_prefixCb fun op2 e => hne ⟨op2, e⟩)
    exact Laws.Length.prefixCb op2

/-! ### The round trip -/

/-- Decoding answers the two tables' entry and what follows the bytes the first one asks for, or rejects. -/
theorem decode_cons (op : Byte) (tail : List Byte) :
    (tail.length + 1 < opLength op → decode (op :: tail) = .reject (.truncated op (tail.length + 1))) ∧
    (opLength op ≤ tail.length + 1 → decode (op :: tail) =
      .ok (baseEntry op (tail.getD 0 0) (tail.getD 1 0)).resolve (tail.drop (opLength op - 1))) :=
  ⟨fun h => if_pos h, fun h => if_neg (Nat.not_lt.2 h)⟩

/-- An accepted list of bytes has a first byte and all that it asks for. -/
theorem decode_eq_ok {bytes rest : List Byte} {i : Instr} (h : decode bytes = .ok i rest) :
    ∃ op tail, bytes = op :: tail ∧ opLength op ≤ tail.length + 1 ∧
      i = (baseEntry op (tail.getD 0 0) (tail.getD 1 0)).resolve ∧ rest = tail.drop (opLength op - 1) := by
  cases bytes with
  | nil => cases h
  | cons op tail =>
    obtain hshort | hlong := Nat.lt_or_ge (tail.length + 1) (opLength op)
    · cases h.symm.trans ((decode_cons op tail).1 hshort)
    · cases h.symm.trans ((decode_cons op tail).2 hlong)
      exact ⟨op, tail, rfl, hlong, rfl, rfl⟩

/-- R102: the decoder reads the bytes of what is found in the tables to their end and no further. -/
theorem FoundInTables.decode_encode {i : Instr} (h : FoundInTables i) (rest : List Byte) :
    decode (encode i ++ rest) = .ok i rest := by
  obtain ⟨op, tail, hbytes, hentry⟩ := h rest
  have hlen : (encode i).length = opLength ((encode i).headD 0) := h.length
  rw [hbytes] at hlen ⊢
  change tail.length + 1 = opLength op at hlen
  have hlong : opLength op ≤ (tail ++ rest).length + 1 := by
    rw [List.length_append]
    omega
  rw [List.cons_append, (decode_cons op _).2 hlong, hentry, ← hlen, Nat.add_sub_cancel, List.drop_left]

/-- Settles O1: the tables have the instruction where the decoder looks, and the decoder reads to its end. -/
theorem decodeOfEncode : Obligations.DecodeOfEncode := fun _ rest h => (foundInTables h).decode_encode rest

/-- The bytes the decoder uses and those it leaves are the bytes it was given. -/
theorem taken_append_dropped {op : Byte} {tail : List Byte} (h : opLength op ≤ tail.length + 1) :
    [op, tail.getD 0 0, tail.getD 1 0].take (opLength op) ++ tail.drop (opLength op - 1) = op :: tail := by
  obtain hop | hop | hop := opLength_cases op <;> rw [hop] at h ⊢
  · rfl
  · obtain _ | ⟨b1, rest⟩ := tail
    · exact absurd h (by decide)
    · rfl
  · obtain _ | ⟨b1, _ | ⟨b2, rest⟩⟩ := tail
    · exact absurd h (by decide)
    · exact absurd h (by simp)
    · rfl

/-- Settles O2: the entry the decoder took has the bytes it used. -/
theorem encodeOfDecode : Obligations.EncodeOfDecode := by
  intro bytes rest i h
  obtain ⟨op, tail, rfl, hlen, rfl, rfl⟩ := decode_eq_ok h
  obtain ⟨hwf, hbytes⟩ := resolve_spec (baseEntry op (tail.getD 0 0) (tail.getD 1 0))
  refine ⟨hwf, ?_⟩
  rw [hbytes, encode_baseEntry, taken_append_dropped hlen]

/-! ### The illegal slots, the lengths and the fields -/

theorem illegal_wellFormed (k : IllegalSlot) : (Instr.illegal k).wellFormed = true := by cases k <;> rfl

/-- R115: each of the eleven opcodes is the byte of a slot. -/
theorem exists_illegalByte {op : Byte} (h : op ∈ illegalOpcodes) : ∃ k, illegalByte k = op := by
  change op ∈ [IllegalSlot.d3, .db, .dd, .e3, .e4, .eb, .ec, .ed, .f4, .fc, .fd].map illegalByte at h
  obtain ⟨k, -, hk⟩ := List.mem_map.1 h
  exact ⟨k, hk⟩

/-- R109: no entry of the extended table is illegal, for its encoding has two bytes. -/
theorem cbEntry_ne_illegal (op2 : Byte) (k : IllegalSlot) : cbEntry op2 ≠ Instr.illegal k := fun h => by
  have hbytes := encode_cbEntry op2
  rw [h, encode_illegal] at hbytes
  have hlen : 1 = 2 := congrArg List.length hbytes
  exact absurd hlen (by decide)

/-- Decoding rejects missing bytes alone. -/
theorem decode_rejects_iff (bytes : List Byte) :
    (∃ e, decode bytes = .reject e) ↔ (bytes = [] ∨ bytes.length < opLength (bytes.headD 0)) := by
  cases bytes with
  | nil => exact ⟨fun _ => .inl rfl, fun _ => ⟨_, rfl⟩⟩
  | cons op tail =>
    obtain hshort | hlong := Nat.lt_or_ge (tail.length + 1) (opLength op)
    · exact ⟨fun _ => .inr hshort, fun _ => ⟨_, (decode_cons op tail).1 hshort⟩⟩
    · refine ⟨fun ⟨e, he⟩ => ?_, fun h => ?_⟩
      · cases he.symm.trans ((decode_cons op tail).2 hlong)
      · obtain h | h := h
        · cases h
        · exact absurd hlong (Nat.not_le.2 h)

/-- Settles O3: by the round trip, a slot's one byte is the first byte decoded. -/
theorem illegalSlotsAreExactlyEleven : Obligations.IllegalSlotsAreExactlyEleven := by
  refine ⟨fun op b1 b2 => ⟨fun ⟨k, rest, h⟩ => ?_, fun h => ?_⟩, cbEntry_ne_illegal, decode_rejects_iff⟩
  · obtain ⟨-, hbytes⟩ := encodeOfDecode _ _ _ h
    rw [encode_illegal] at hbytes
    cases hbytes
    exact illegalByte_mem k
  · obtain ⟨k, rfl⟩ := exists_illegalByte h
    have hdecode := decodeOfEncode (.illegal k) [b1, b2] (illegal_wellFormed k)
    rw [encode_illegal] at hdecode
    exact ⟨k, _, hdecode⟩

/-- R102: the length of an encoding by its first byte. -/
theorem length_encode_of_head? {i : Instr} {o : Option Byte} (h : (encode i).head? = o) :
    (encode i).length = opLength (o.getD 0) :=
  (length_encode i).trans (by rw [List.headD_eq_head?_getD, h])

/-- Settles O4: the first byte asks for the length. -/
theorem lengthIsAFunctionOfTheFirstByte : Obligations.LengthIsAFunctionOfTheFirstByte :=
  ⟨fun i => length_encode i ▸ opLength_cases _,
    fun _ j h => (length_encode_of_head? h).trans (length_encode_of_head? (i := j) rfl).symm,
    fun _ h => length_encode_of_head? h⟩

/-- Settles O5: the bytes of each row, operand by operand. -/
theorem encodingFieldsFollowTheCodes : Obligations.EncodingFieldsFollowTheCodes := by
  refine ⟨encode_ld8, encode_alu, fun op v => ?aluImm, fun o => ?incDec, fun o v => ?ld8Imm, fun p v => ?ldPair,
    fun p => ?pair, fun p => ?stack, fun v => ⟨rfl, rfl, rfl, rfl, rfl⟩, fun cc v r8 => ?cond, fun t => ?rst, encode_rot,
    fun b o => ⟨encode_bit b o, encode_res b o, encode_set b o⟩,
    fun op2 => ⟨cbEntry op2, cbEntry_wellFormed op2, encode_cbEntry op2, rfl⟩,
    fun s v => ⟨rfl, rfl, fun r => ⟨rfl, rfl⟩⟩, fun f => ⟨rfl, rfl, rfl, rfl⟩⟩
  case aluImm => cases op <;> rfl
  case incDec => cases o using opnd8_by_code <;> exact ⟨rfl, rfl⟩
  case ld8Imm => cases o using opnd8_by_code <;> rfl
  case ldPair => cases p <;> rfl
  case pair => cases p <;> exact ⟨rfl, rfl, rfl⟩
  case stack => cases p <;> exact ⟨rfl, rfl⟩
  case cond => cases cc <;> exact ⟨rfl, rfl, rfl, rfl⟩
  case rst => cases t <;> exact ⟨rfl, rfl⟩

/-- Settles O6: each word is the encoding of the instruction it stands for, so O1 decodes it. -/
theorem sampleWordsDecode : Obligations.SampleWordsDecode := by
  have h : ∀ i : Instr, i.wellFormed = true → decode (encode i) = .ok i [] := fun i hi => by
    simpa using decodeOfEncode i [] hi
  exact ⟨h .nop rfl, h (.ldBcD16 0x1234) rfl, h (.ldAtA16Sp 0xC100) rfl, h (.stop 0x00) rfl, h (.jrNzR8 0xFE) rfl,
    h .daa rfl, h .incAtHl rfl, h .ldBC rfl, h .halt rfl, h .sbcAAtHl rfl, h (.jpNzA16 0x1234) rfl, h .swapA rfl,
    h .bit7AtHl rfl, h .reti rfl, h (.ldhAtA8A 0xFF) rfl, h (.ldHlSpR8 0x02) rfl, h .ei rfl, h .illegalED rfl⟩

/-! ### The columns of the opcode map (R112, R113, R515) -/

/-- What a flag's entry says of its value before and after. -/
def FlagEffect.Agrees (e : FlagEffect) (old new : Bool) : Prop :=
  match e with
  | .keep => new = old
  | .zero => new = false
  | .one => new = true
  | .computed => True

/-- What a row's flag column says of F before and after. -/
structure FlagRow.Agrees (r : FlagRow) (f g : Flags) : Prop where
  z : FlagEffect.Agrees r.z f.z g.z
  n : FlagEffect.Agrees r.n f.n g.n
  h : FlagEffect.Agrees r.h f.h g.h
  c : FlagEffect.Agrees r.c f.c g.c

/-- The flag column of the rows that write no flag. -/
def keepsFlags : FlagRow := ⟨.keep, .keep, .keep, .keep⟩

theorem keepsFlags_agrees (f : Flags) : FlagRow.Agrees keepsFlags f f := ⟨rfl, rfl, rfl, rfl⟩

/-- The M-cycles of an instruction's cell, by the flags when it has a condition. -/
def cellCycles (i : Instr) (f : Flags) : Nat :=
  match i.condition with
  | some cc => if condHolds cc f then i.takenCycles else i.notTakenCycles
  | none => i.takenCycles

/-- The instruction completes with the cycles and the flags of its cell. -/
def KeepsToCell (i : Instr) (s : State) : Prop :=
  ∃ t, exec i s = .next t ∧ t.outcome = some (.executed (cellCycles i s.f)) ∧ FlagRow.Agrees i.flagRow s.f t.f

/-- A row whose cell has the cycles and the flag column of its meaning. -/
theorem KeepsToCell.intro {i : Instr} {s t : State} {n : Nat} {r : FlagRow} (hexec : exec i s = done n t)
    (hcycles : cellCycles i s.f = n) (hrow : i.flagRow = r) (hflags : FlagRow.Agrees r s.f t.f) : KeepsToCell i s :=
  ⟨_, hexec, by rw [hcycles], hrow ▸ hflags⟩

/-- A row that writes no flag. -/
theorem KeepsToCell.of_keepsFlags {i : Instr} {s t : State} {n : Nat} (hexec : exec i s = done n t)
    (hcycles : cellCycles i s.f = n) (hrow : i.flagRow = keepsFlags) (hf : t.f = s.f) : KeepsToCell i s :=
  .intro hexec hcycles hrow (hf ▸ keepsFlags_agrees s.f)

/-- R302, R515: a conditional transfer, taken and not taken. -/
theorem KeepsToCell.of_condition {i : Instr} {s t u : State} {n m : Nat} {cc : Cond}
    (hexec : exec i s = if condHolds cc s.f then done n t else done m u) (hcond : i.condition = some cc)
    (htaken : i.takenCycles = n) (hnot : i.notTakenCycles = m) (hrow : i.flagRow = keepsFlags) (ht : t.f = s.f)
    (hu : u.f = s.f) : KeepsToCell i s := by
  have hcycles : cellCycles i s.f = if condHolds cc s.f then n else m := by rw [cellCycles, hcond, htaken, hnot]
  by_cases h : condHolds cc s.f = true
  · exact .of_keepsFlags (hexec.trans (if_pos h)) (hcycles.trans (if_pos h)) hrow ht
  · exact .of_keepsFlags (hexec.trans (if_neg h)) (hcycles.trans (if_neg h)) hrow hu

/-- R104: writing an operand leaves F alone. -/
theorem State.dst8_f (s : State) (o : Opnd8) (v : Byte) : (s.dst8 o v).f = s.f := by
  cases o with
  | reg r => exact State.setReg8_f s r v
  | atHl => rfl

/-- R104: so does reading one. -/
theorem State.afterSrc8_f (s : State) (o : Opnd8) : (s.afterSrc8 o).f = s.f := by cases o <;> rfl

/-- R107: the flag column of an ALU operation is that of its immediate form, whatever the operand. -/
theorem flagRow_alu (op : AluOp) (o : Opnd8) (v : Byte) : (Instr.alu op o).flagRow = (Instr.aluImm op v).flagRow := by
  cases op <;> cases o using opnd8_by_code <;> rfl

/-- R140 to R144: the flags of the ALU operations are those of their column. -/
theorem alu_agrees (op : AluOp) (v a b : Byte) (f : Flags) (c : Bool) :
    FlagRow.Agrees (Instr.aluImm op v).flagRow f (alu op a b c).flags := by
  cases op with
  | add | adc | sub | sbc | cp => exact ⟨trivial, rfl, trivial, trivial⟩
  | and | xor | or => exact ⟨trivial, rfl, rfl, rfl⟩

theorem alu_keepsToCell (op : AluOp) (o : Opnd8) (s : State) : KeepsToCell (.alu op o) s := by
  refine .intro (exec_alu op o s) ?_ (flagRow_alu op o 0) (alu_agrees op 0 s.a (s.src8 o) s.f s.f.c)
  cases op <;> cases o using opnd8_by_code <;> rfl

theorem aluImm_keepsToCell (op : AluOp) (v : Byte) (s : State) : KeepsToCell (.aluImm op v) s := by
  refine .intro (exec_aluImm op v s) ?_ rfl (alu_agrees op v s.a v s.f s.f.c)
  cases op <;> rfl

theorem inc8_keepsToCell (o : Opnd8) (s : State) : KeepsToCell (.inc8 o) s := by
  refine .intro (r := ⟨.computed, .zero, .computed, .keep⟩) (exec_inc8 o s) ?_ ?_ ⟨trivial, rfl, trivial, rfl⟩ <;>
    cases o using opnd8_by_code <;> rfl

theorem dec8_keepsToCell (o : Opnd8) (s : State) : KeepsToCell (.dec8 o) s := by
  refine .intro (r := ⟨.computed, .one, .computed, .keep⟩) (exec_dec8 o s) ?_ ?_ ⟨trivial, rfl, trivial, rfl⟩ <;>
    cases o using opnd8_by_code <;> rfl

/-- R110: the flag column of a rotate or shift does not depend on the operand. -/
theorem flagRow_rot (op : RotOp) (o : Opnd8) : (Instr.rot op o).flagRow = (Instr.rot op .atHl).flagRow := by
  cases op <;> cases o using opnd8_by_code <;> rfl

/-- R225 to R240: the flags of the rotates and shifts are those of their column; SWAP alone clears C. -/
theorem rotate_agrees (op : RotOp) (v : Byte) (f : Flags) (c : Bool) :
    FlagRow.Agrees (Instr.rot op .atHl).flagRow f (rotFlags (rotate op v c)) := by
  cases op with
  | swap => exact ⟨trivial, rfl, rfl, rfl⟩
  | _ => exact ⟨trivial, rfl, rfl, trivial⟩

theorem rot_keepsToCell (op : RotOp) (o : Opnd8) (s : State) : KeepsToCell (.rot op o) s := by
  refine .intro (exec_rot op o s) ?_ (flagRow_rot op o) (rotate_agrees op (s.src8 o) s.f s.f.c)
  cases op <;> cases o using opnd8_by_code <;> rfl

theorem bit_keepsToCell (b : BitNo) (o : Opnd8) (s : State) : KeepsToCell (.bit b o) s := by
  refine .intro (r := ⟨.computed, .zero, .one, .keep⟩) (exec_bit b o s) ?_ ?_ ⟨trivial, rfl, rfl, rfl⟩ <;>
    cases b <;> cases o using opnd8_by_code <;> rfl

theorem res_keepsToCell (b : BitNo) (o : Opnd8) (s : State) : KeepsToCell (.res b o) s := by
  refine .of_keepsFlags (exec_res b o s) ?_ ?_ ((State.dst8_f ..).trans (s.afterSrc8_f o)) <;>
    cases b <;> cases o using opnd8_by_code <;> rfl

theorem set_keepsToCell (b : BitNo) (o : Opnd8) (s : State) : KeepsToCell (.set b o) s := by
  refine .of_keepsFlags (exec_set b o s) ?_ ?_ ((State.dst8_f ..).trans (s.afterSrc8_f o)) <;>
    cases b <;> cases o using opnd8_by_code <;> rfl

/-- R109: each group of the extended table. -/
theorem cbEntry_keepsToCell (op2 : Byte) (s : State) : KeepsToCell (cbEntry op2) s := by
  unfold cbEntry
  split
  · exact rot_keepsToCell _ _ s
  · exact bit_keepsToCell _ _ s
  · exact res_keepsToCell _ _ s
  · exact set_keepsToCell _ _ s

/-- R345: `prefixCb` has the cell of the row it goes on to, which has no condition. -/
theorem prefixCb_cell : ∀ op2 : Byte, (Instr.prefixCb op2).flagRow = (cbEntry op2).flagRow ∧
    (Instr.prefixCb op2).takenCycles = (cbEntry op2).takenCycles ∧ (cbEntry op2).condition = none := by
  decide +kernel

theorem prefixCb_keepsToCell (op2 : Byte) (s : State) : KeepsToCell (.prefixCb op2) s := by
  obtain ⟨hrow, hcycles, hcond⟩ := prefixCb_cell op2
  obtain ⟨t, hexec, hout, hflags⟩ := cbEntry_keepsToCell op2 s
  have hcell : cellCycles (cbEntry op2) s.f = cellCycles (.prefixCb op2) s.f := by
    rw [cellCycles, hcond]
    exact hcycles.symm
  exact ⟨t, (exec_prefixCb op2 s).trans hexec, hcell ▸ hout, hrow ▸ hflags⟩

theorem pop_keepsToCell (p : Pair2) (s : State) : KeepsToCell (.pop p) s := by
  cases p with
  | af => exact .intro (exec_pop .af s) rfl rfl ⟨trivial, trivial, trivial, trivial⟩
  | bc | de | hl => exact .of_keepsFlags (exec_pop _ s) rfl rfl rfl

theorem State.setPair1_f (s : State) (p : Pair1) (v : Word) : (s.setPair1 p v).f = s.f := by cases p <;> rfl

theorem halt_keepsToCell (s : State) : KeepsToCell .halt s := by
  have hexec : exec .halt s = if s.config.haltBug && !s.ime then
      if s.pending ≠ 0 then done 1 { s.afterPending with haltBugArmed := true }
      else done 1 { s.afterPending with halted := true }
    else done 1 { s with halted := true } := rfl
  by_cases hbug : (s.config.haltBug && !s.ime) = true
  · rw [if_pos hbug] at hexec
    by_cases hpending : s.pending ≠ 0
    · exact .of_keepsFlags (hexec.trans (if_pos hpending)) rfl rfl rfl
    · exact .of_keepsFlags (hexec.trans (if_neg hpending)) rfl rfl rfl
  · exact .of_keepsFlags (hexec.trans (if_neg hbug)) rfl rfl rfl

/-- R185: DAA keeps N, clears H and computes the rest. -/
theorem daa_agrees (a : Byte) (f : Flags) : FlagRow.Agrees Instr.daa.flagRow f (daa a f).flags := by
  unfold daa
  split <;> exact ⟨trivial, rfl, rfl, trivial⟩

/-- R112, R113: every instruction has the cycles and the flags of its cell. -/
theorem keepsToCell (i : Instr) (s : State) : KeepsToCell i s := by
  cases i using Instr.by_rows with
  | alu op o => exact alu_keepsToCell op o s
  | aluImm op v => exact aluImm_keepsToCell op v s
  | inc8 o => exact inc8_keepsToCell o s
  | dec8 o => exact dec8_keepsToCell o s
  | rot op o => exact rot_keepsToCell op o s
  | bit b o => exact bit_keepsToCell b o s
  | res b o => exact res_keepsToCell b o s
  | set b o => exact set_keepsToCell b o s
  | prefixCb v => exact prefixCb_keepsToCell v s
  | pop p => exact pop_keepsToCell p s
  | halt => exact halt_keepsToCell s
  | ldReg dst r =>
    refine .of_keepsFlags (exec_ld8_reg_reg dst r s) ?_ ?_ (State.setReg8_f ..) <;> cases dst <;> cases r <;> rfl
  | ldFromHl dst => refine .of_keepsFlags (exec_ld8_reg_hl dst s) ?_ ?_ (State.setReg8_f ..) <;> cases dst <;> rfl
  | ldToHl r => refine .of_keepsFlags (exec_ld8_hl_reg r s) ?_ ?_ rfl <;> cases r <;> rfl
  | ld8ImmReg dst v => refine .of_keepsFlags (exec_ld8Imm_reg dst v s) ?_ ?_ (State.setReg8_f ..) <;> cases dst <;> rfl
  | ldPair p v => refine .of_keepsFlags (exec_ldPair p v s) ?_ ?_ (State.setPair1_f ..) <;> cases p <;> rfl
  | incPair p => refine .of_keepsFlags (exec_incPair p s) ?_ ?_ (State.setPair1_f ..) <;> cases p <;> rfl
  | decPair p => refine .of_keepsFlags (exec_decPair p s) ?_ ?_ (State.setPair1_f ..) <;> cases p <;> rfl
  | push p => refine .of_keepsFlags (exec_push p s) ?_ ?_ rfl <;> cases p <;> rfl
  | addHl p =>
    refine .intro (r := ⟨.keep, .zero, .computed, .computed⟩) (exec_addHl p s) ?_ ?_ ⟨rfl, rfl, trivial, trivial⟩ <;>
      cases p <;> rfl
  | jpCc cc v => refine .of_condition (exec_jpCc cc v s) ?_ ?_ ?_ ?_ rfl rfl <;> cases cc <;> rfl
  | jrCc cc v => refine .of_condition (exec_jrCc cc v s) ?_ ?_ ?_ ?_ rfl rfl <;> cases cc <;> rfl
  | callCc cc v => refine .of_condition (exec_callCc cc v s) ?_ ?_ ?_ ?_ rfl rfl <;> cases cc <;> rfl
  | retCc cc => refine .of_condition (exec_retCc cc s) ?_ ?_ ?_ ?_ rfl rfl <;> cases cc <;> rfl
  | rst t => refine .of_keepsFlags (exec_rst t s) ?_ ?_ rfl <;> cases t <;> rfl
  | illegal k =>
    refine .of_keepsFlags (exec_illegal k s) ?_ ?_ (by split <;> rfl) <;> cases k <;> rfl
  | daa => exact .intro rfl rfl rfl (daa_agrees s.a s.f)
  | cpl => exact .intro rfl rfl rfl ⟨rfl, rfl, rfl, rfl⟩
  | scf => exact .intro rfl rfl rfl ⟨rfl, rfl, rfl, rfl⟩
  | ccf => exact .intro rfl rfl rfl ⟨rfl, rfl, rfl, trivial⟩
  | rlca | rrca | rla | rra => exact .intro rfl rfl rfl ⟨rfl, rfl, rfl, trivial⟩
  | addSpR8 v | ldHlSpR8 v => exact .intro rfl rfl rfl ⟨rfl, rfl, trivial, trivial⟩
  | _ => exact .of_keepsFlags rfl rfl rfl rfl

/-- Settles O8: the cycles and flags row by row, and the length by R102. -/
theorem opcodeMapColumnsHold : Obligations.OpcodeMapColumnsHold := by
  intro i s
  obtain ⟨t, hexec, hout, hz, hn, hh, hc⟩ := keepsToCell i s
  exact ⟨t, hexec, hout, ⟨hz, hn, hh, hc⟩, length_encode i⟩

end Sys2Proof.Machine

/-! PROOFS, 8-bit arithmetic and logic (40_alu8.md): the operand forms of the ALU, INC and DEC, the carries behind the
flag formulas, and DAA. -/

namespace Sys2Proof.Machine

/-! ### The operand forms of the ALU (R150 to R173) -/

section
variable {op : AluOp} {s : State} {spec : Byte → AluOut} (h : ∀ b, alu op s.a b s.f.c = spec b)
include h

/-- An ALU operation on a register, by the formula of its operation on A and the carry flag. -/
theorem exec_alu_reg_of_spec (r : Reg8) : exec (.alu op (.reg r)) s = .next { s with
    a := (spec (s.reg8 r)).value, f := (spec (s.reg8 r)).flags, outcome := some (.executed 1) } := by
  rw [exec_alu, ← h]
  rfl

/-- An ALU operation on the byte at HL, read once. -/
theorem exec_alu_atHl_of_spec : exec (.alu op .atHl) s = .next { s.afterRead s.hl with
    a := (spec (s.peek s.hl)).value, f := (spec (s.peek s.hl)).flags, outcome := some (.executed 2) } := by
  rw [exec_alu, ← h]
  rfl

/-- An ALU operation on an immediate. -/
theorem exec_aluImm_of_spec (v : Byte) : exec (.aluImm op v) s = .next { s with
    a := (spec v).value, f := (spec v).flags, outcome := some (.executed 2) } := by
  rw [exec_aluImm, ← h]
  rfl

end

/-- Settles O9: `add8` is R140's formula, with carry-in 0 for ADD and C for ADC. -/
theorem addAndAdc : Obligations.AddAndAdc := by
  intro s r d8
  have hadd : ∀ b, alu .add s.a b s.f.c = specAdd8 s.a b false := fun b => add8_eq_spec s.a b false
  have hadc : ∀ b, alu .adc s.a b s.f.c = specAdd8 s.a b s.f.c := fun b => add8_eq_spec s.a b s.f.c
  exact ⟨encode_alu .add (.reg r), exec_alu_reg_of_spec hadd r, rfl, exec_alu_atHl_of_spec hadd,
    rfl, exec_aluImm_of_spec hadd d8,
    encode_alu .adc (.reg r), exec_alu_reg_of_spec hadc r, rfl, exec_alu_atHl_of_spec hadc,
    rfl, exec_aluImm_of_spec hadc d8⟩

/-- R171: Z of a comparison means that the two are equal. -/
theorem specSub8_z (a v : Byte) : (specSub8 a v false).flags.z = decide (a = v) := by
  change decide (((a.toNat : Int) - v.toNat - ((false.toNat : Nat) : Int)) % 256 = 0) = _
  rw [decide_eq_decide, ← BitVec.toNat_inj, Bool.toNat_false]
  omega

/-- Settles O10: `sub8` is R141's formula, with borrow-in 0 for SUB and CP and C for SBC; CP's result is A itself. -/
theorem subSbcAndCp : Obligations.SubSbcAndCp := by
  refine ⟨fun s r d8 => ?_, fun a v => ⟨specSub8_z a v, specSub8_c a v false⟩⟩
  have hsub : ∀ b, alu .sub s.a b s.f.c = specSub8 s.a b false := fun b => sub8_eq_spec s.a b false
  have hsbc : ∀ b, alu .sbc s.a b s.f.c = specSub8 s.a b s.f.c := fun b => sub8_eq_spec s.a b s.f.c
  have hcp : ∀ b, alu .cp s.a b s.f.c = ⟨s.a, (specSub8 s.a b false).flags⟩ := fun b =>
    sub8_eq_spec s.a b false ▸ rfl
  exact ⟨encode_alu .sub (.reg r), exec_alu_reg_of_spec hsub r, rfl, exec_alu_atHl_of_spec hsub,
    rfl, exec_aluImm_of_spec hsub d8,
    encode_alu .sbc (.reg r), exec_alu_reg_of_spec hsbc r, rfl, exec_alu_atHl_of_spec hsbc,
    rfl, exec_aluImm_of_spec hsbc d8,
    encode_alu .cp (.reg r), exec_alu_reg_of_spec hcp r, rfl, exec_alu_atHl_of_spec hcp,
    rfl, exec_aluImm_of_spec hcp d8⟩

/-- Settles O11: `and8`, `xor8` and `or8` are R142 to R144. -/
theorem andXorOr : Obligations.AndXorOr := by
  intro s r d8
  have hand : ∀ b, alu .and s.a b s.f.c = ⟨s.a &&& b, ⟨decide (s.a &&& b = 0), false, true, false⟩⟩ := fun _ => rfl
  have hxor : ∀ b, alu .xor s.a b s.f.c = ⟨s.a ^^^ b, ⟨decide (s.a ^^^ b = 0), false, false, false⟩⟩ := fun _ => rfl
  have hor : ∀ b, alu .or s.a b s.f.c = ⟨s.a ||| b, ⟨decide (s.a ||| b = 0), false, false, false⟩⟩ := fun _ => rfl
  exact ⟨encode_alu .and (.reg r), exec_alu_reg_of_spec hand r, rfl, exec_alu_atHl_of_spec hand,
    rfl, exec_aluImm_of_spec hand d8,
    encode_alu .xor (.reg r), exec_alu_reg_of_spec hxor r, rfl, exec_alu_atHl_of_spec hxor,
    rfl, exec_aluImm_of_spec hxor d8,
    encode_alu .or (.reg r), exec_alu_reg_of_spec hor r, rfl, exec_alu_atHl_of_spec hor,
    rfl, exec_aluImm_of_spec hor d8⟩

/-! ### INC and DEC (R180 to R183) -/

/-- Settles O12: `inc8` and `dec8` are `add8` and `sub8` with 1, C kept; the (HL) forms store the one byte. -/
theorem incAndDecBytes : Obligations.IncAndDecBytes := by
  intro s r
  obtain ⟨-, -, -, hencode, -⟩ := encodingFieldsFollowTheCodes
  obtain ⟨hinc, hdec⟩ := hencode (.reg r)
  simp only [← add8_eq_spec, ← sub8_eq_spec]
  exact ⟨hinc, exec_inc8 (.reg r) s, hdec, exec_dec8 (.reg r) s,
    rfl, ⟨_, exec_inc8 .atHl s, fun hf => (storesByte_afterRead_write8 hf ..).congr rfl rfl, rfl⟩,
    rfl, ⟨_, exec_dec8 .atHl s, fun hf => (storesByte_afterRead_write8 hf ..).congr rfl rfl, rfl⟩⟩

/-- Settles O16: the meanings are the rules' own words. -/
theorem complementAndCarryFlag : Obligations.ComplementAndCarryFlag :=
  fun _ => ⟨rfl, rfl, rfl, rfl, rfl, rfl⟩

/-! ### What the flag formulas stand for (R140, R141, R145, R200, R201) -/

/-- The low byte of a difference. -/
theorem lowByte_sub {w : Nat} (hw : 8 ≤ w) (x y : BitVec w) :
    (x - y).setWidth 8 = x.setWidth 8 - y.setWidth 8 :=
  eq_sub_of_add_eq (by rw [← BitVec.setWidth_add _ _ hw, BitVec.sub_add_cancel])

/-- A sign-extended byte and a zero-extended one have the same low byte. -/
theorem lowByte_signExtend {w : Nat} (hw : 8 ≤ w) (a : Byte) :
    (a.signExtend w).setWidth 8 = (a.setWidth 9).setWidth 8 := by
  ext i hi
  simp [BitVec.getElem_signExtend, hi, Nat.lt_of_lt_of_le hi hw]

/-- R140: on every width, bit i of the XOR of the operands and their sum is the carry into bit i. -/
theorem getLsbD_xor_sum {w i : Nat} (hi : i < w) (x y : BitVec w) (c : Bool) :
    (x ^^^ y ^^^ (x + y + (BitVec.ofBool c).setWidth w)).getLsbD i = BitVec.carry i x y c := by
  rw [BitVec.getLsbD_xor, BitVec.getLsbD_xor, BitVec.getLsbD_add_add_bool hi]
  cases x.getLsbD i <;> cases y.getLsbD i <;> simp

/-- R141: the difference plus the operand and the borrow-in is the first operand, so bit i of the XOR is a carry of that
sum. -/
theorem getLsbD_xor_diff {w i : Nat} (hi : i < w) (x y : BitVec w) (c : Bool) :
    (x ^^^ y ^^^ (x - y - (BitVec.ofBool c).setWidth w)).getLsbD i =
      BitVec.carry i (x - y - (BitVec.ofBool c).setWidth w) y c := by
  have hx : x - y - (BitVec.ofBool c).setWidth w + y + (BitVec.ofBool c).setWidth w = x := by abel
  rw [← getLsbD_xor_sum hi, hx, BitVec.xor_comm, BitVec.xor_assoc, BitVec.xor_comm x y]

section
variable {v w : Nat} (hv : 9 ≤ v) (hw : 9 ≤ w) {x y : BitVec v} {x' y' : BitVec w}
  (hx : x.setWidth 8 = x'.setWidth 8) (hy : y.setWidth 8 = y'.setWidth 8) (c : Bool)
include hx hy

/-- The carries into the low bits and into bit 8 depend on the low bytes alone. -/
theorem carry_eq_of_lowBytes {i : Nat} (hi : i ≤ 8) : BitVec.carry i x y c = BitVec.carry i x' y' c := by
  have hlow {w : Nat} (z : BitVec w) : z.toNat % 2 ^ i = (z.setWidth 8).toNat % 2 ^ i := by
    rw [BitVec.toNat_setWidth, Nat.mod_mod_of_dvd _ (Nat.pow_dvd_pow 2 hi)]
  simp only [BitVec.carry, hlow x, hlow y, hlow x', hlow y', hx, hy]

include hv hw

/-- R140: two extensions of the same low bytes give the same result and the same carries up to bit 8. -/
theorem sum_eq_of_lowBytes :
    (x + y + (BitVec.ofBool c).setWidth v).setWidth 8 = (x' + y' + (BitVec.ofBool c).setWidth w).setWidth 8 ∧
    ∀ i ≤ 8, (x ^^^ y ^^^ (x + y + (BitVec.ofBool c).setWidth v)).getLsbD i =
      (x' ^^^ y' ^^^ (x' + y' + (BitVec.ofBool c).setWidth w)).getLsbD i := by
  refine ⟨?_, fun i hi => ?_⟩
  · have hv8 : 8 ≤ v := by omega
    have hw8 : 8 ≤ w := by omega
    simp only [BitVec.setWidth_add _ _ hv8, BitVec.setWidth_add _ _ hw8, BitVec.setWidth_setWidth_of_le _ hv8,
      BitVec.setWidth_setWidth_of_le _ hw8, hx, hy]
  · rw [getLsbD_xor_sum (by omega), getLsbD_xor_sum (by omega), carry_eq_of_lowBytes hx hy c hi]

/-- R141: two extensions of the same low bytes give the same difference and the same borrows up to bit 8. -/
theorem diff_eq_of_lowBytes :
    (x - y - (BitVec.ofBool c).setWidth v).setWidth 8 = (x' - y' - (BitVec.ofBool c).setWidth w).setWidth 8 ∧
    ∀ i ≤ 8, (x ^^^ y ^^^ (x - y - (BitVec.ofBool c).setWidth v)).getLsbD i =
      (x' ^^^ y' ^^^ (x' - y' - (BitVec.ofBool c).setWidth w)).getLsbD i := by
  have hdiff : (x - y - (BitVec.ofBool c).setWidth v).setWidth 8 =
      (x' - y' - (BitVec.ofBool c).setWidth w).setWidth 8 := by
    have hv8 : 8 ≤ v := by omega
    have hw8 : 8 ≤ w := by omega
    simp only [lowByte_sub hv8, lowByte_sub hw8, BitVec.setWidth_setWidth_of_le _ hv8,
      BitVec.setWidth_setWidth_of_le _ hw8, hx, hy]
  refine ⟨hdiff, fun i hi => ?_⟩
  rw [getLsbD_xor_diff (by omega), getLsbD_xor_diff (by omega), carry_eq_of_lowBytes hdiff hy c hi]

end

/-- H of `add16` is the carry out of bit 11. -/
theorem specAdd16_h (a b : Word) : (specAdd16 a b).h = decide (a.toNat % 4096 + b.toNat % 4096 > 4095) :=
  xor_add_testBit a.toNat b.toNat false 12

/-- C of `add16` is the carry out of bit 15. -/
theorem specAdd16_c (a b : Word) : (specAdd16 a b).c = decide (a.toNat + b.toNat > 65535) := by
  have hcarry : (specAdd16 a b).c = _ := xor_add_testBit a.toNat b.toNat false 16
  rw [hcarry, decide_eq_decide, Bool.toNat_false]
  omega

/-- R12: sign extension keeps the low byte. -/
theorem specSext16_mod (d : Byte) : specSext16 d % 256 = d.toNat := by
  unfold specSext16
  split <;> omega

/-- Under `hw8`, H of `sp_plus` is the carry out of bit 3 of the low bytes. -/
theorem specSpPlus_hw8_h (sp : Word) (d : Byte) :
    (specSpPlus .hw8 sp d).h = decide (sp.toNat % 16 + d.toNat % 16 > 15) := by
  have hcarry : (specSpPlus .hw8 sp d).h = _ := xor_add_testBit sp.toNat (specSext16 d) false 4
  have hlow := specSext16_mod d
  rw [hcarry, decide_eq_decide, Bool.toNat_false]
  omega

/-- Under `hw8`, C of `sp_plus` is the carry out of bit 7 of the low bytes. -/
theorem specSpPlus_hw8_c (sp : Word) (d : Byte) :
    (specSpPlus .hw8 sp d).c = decide (sp.toNat % 256 + d.toNat > 255) := by
  have hcarry : (specSpPlus .hw8 sp d).c = _ := xor_add_testBit sp.toNat (specSext16 d) false 8
  have hlow := specSext16_mod d
  rw [hcarry, decide_eq_decide, Bool.toNat_false]
  omega

/-! ### DAA (R185) -/

/-- The low correction after an addition. -/
def daaLow (a : Byte) (f : Flags) : Nat := if f.h = true ∨ a.toNat % 16 > 9 then 0x06 else 0

/-- Whether the high correction is made after an addition. -/
def daaHigh (a : Byte) (f : Flags) : Bool := f.c || decide (a.toNat + daaLow a f > 0x9F)

/-- The corrected integer, before it is taken modulo 256. -/
def daaInt (a : Byte) (f : Flags) : Int :=
  if f.n = false then (a.toNat : Int) + daaLow a f + (if daaHigh a f = true then 0x60 else 0)
  else (a.toNat : Int) - (if f.h = true then 0x06 else 0) - (if f.c = true then 0x60 else 0)

/-- An integer modulo 256, as a byte. -/
theorem ofInt_eq_byteOf (t : Int) : BitVec.ofInt 8 t = byteOf (t % 256).toNat := by
  apply BitVec.eq_of_toNat_eq
  rw [BitVec.toNat_ofInt, byteOf, BitVec.toNat_ofNat]
  omega

/-- The byte of an integer is zero when the integer is a multiple of 256. -/
theorem ofInt_beq_zero (t : Int) : (BitVec.ofInt 8 t == 0) = decide (t % 256 = 0) := by
  rw [Bool.eq_iff_iff, beq_iff_eq, decide_eq_true_eq, ← BitVec.toNat_inj, BitVec.toNat_ofInt]
  change _ = 0 ↔ _
  omega

/-- R185: DAA takes the corrected integer modulo 256; C is set by the high correction after an addition and kept after
a subtraction. -/
theorem daa_eq (a : Byte) (f : Flags) : daa a f = ⟨byteOf (daaInt a f % 256).toNat,
    ⟨decide (daaInt a f % 256 = 0), f.n, false, if f.n = false then daaHigh a f else f.c⟩⟩ := by
  have hhigh : daaHigh a f = (f.c || decide ((a.toNat : Int) + daaLow a f > 0x9F)) := by
    have htest : a.toNat + daaLow a f > 0x9F ↔ (a.toNat : Int) + daaLow a f > 0x9F := by omega
    rw [daaHigh, decide_eq_decide.2 htest]
  have hlow : (a.toNat : Int) + daaLow a f =
      if f.h = true ∨ a.toNat % 16 > 9 then (a.toNat : Int) + 0x06 else a.toNat := by
    unfold daaLow
    split <;> simp
  rw [← ofInt_eq_byteOf, ← ofInt_beq_zero]
  unfold daa daaInt
  by_cases hn : f.n = false
  · simp only [if_pos hn, hhigh, add_ite, add_zero, hlow]
  · simp only [if_neg hn, sub_ite, sub_zero]

/-- R185: the high correction after an addition is C or the test of the original A. -/
theorem daaHigh_eq (a : Byte) (f : Flags) : daaHigh a f = (f.c || decide (a.toNat > 0x99)) := by
  have htest : a.toNat + daaLow a f > 0x9F ↔ a.toNat > 0x99 := by
    unfold daaLow
    split <;> omega
  rw [daaHigh, decide_eq_decide.2 htest]

/-- Settles O13: every bit of the XOR is a carry into its place, which the lower bits give; so the width does not
matter, and for DAA a low digit above 9 is what takes A past 0x9F. -/
theorem flagFormulasGiveTheCarries : Obligations.FlagFormulasGiveTheCarries := by
  refine ⟨fun a b c => ?_, fun w a b c hw => ?_, fun a b => ?_, fun sp d => ?_, fun a f hn => ?_⟩
  · rw [add8_eq_spec, sub8_eq_spec]
    exact ⟨specAdd8_h a b c, specAdd8_c a b c, specSub8_h a b c, specSub8_c a b c⟩
  · have hlow (v : Byte) := lowByte_signExtend (Nat.le_of_succ_le hw) v
    obtain ⟨hsum, hcarry⟩ := sum_eq_of_lowBytes hw (le_refl 9) (hlow a) (hlow b) c
    obtain ⟨hdiff, hborrow⟩ := diff_eq_of_lowBytes hw (le_refl 9) (hlow a) (hlow b) c
    exact ⟨hsum, hcarry 4 (by decide), hcarry 8 (by decide), hdiff, hborrow 4 (by decide), hborrow 8 (by decide)⟩
  · rw [add16_eq_spec]
    exact ⟨specAdd16_h a b, specAdd16_c a b⟩
  · simp only [spPlus_eq_spec]
    exact ⟨rfl, specSpPlus_hw8_h sp d, specSpPlus_hw8_c sp d⟩
  · rw [daa_eq]
    exact (if_pos hn).trans (daaHigh_eq a f)

/-- Settles O14: DAA is its rule's integer, with the flags that go with it. -/
theorem decimalAdjust : Obligations.DecimalAdjust := by
  intro s
  have hexec : exec .daa s = .next { s with
      a := (daa s.a s.f).value, f := (daa s.a s.f).flags, outcome := some (.executed 1) } := rfl
  rw [daa_eq] at hexec
  exact ⟨rfl, hexec⟩

/-! ### DAA after an addition or a subtraction of BCD numbers -/

/-- The BCD byte of a number's last two decimal digits. -/
def bcdByte (n : Nat) : Byte := byteOf (n / 10 % 10 * 16 + n % 10)

/-- A BCD byte is its number and six more for each ten. -/
theorem bcdByte_toNat {n : Nat} (hn : n < 100) : (bcdByte n).toNat = n + 6 * (n / 10) := by
  have htens : n / 10 % 10 = n / 10 := Nat.mod_eq_of_lt (by omega)
  rw [bcdByte, byteOf, BitVec.toNat_ofNat, htens]
  omega

/-- An integer that is a BCD number modulo 256 has its byte. -/
theorem byteOf_eq_bcdByte {t : Int} {n : Nat} (hn : n < 100) (ht : t % 256 = n + 6 * (n / 10)) :
    byteOf (t % 256).toNat = bcdByte n := by
  apply BitVec.eq_of_toNat_eq
  rw [bcdByte_toNat hn, byteOf, BitVec.toNat_ofNat]
  omega

theorem specAdd8_toNat (a b : Byte) (c : Bool) :
    (specAdd8 a b c).value.toNat = (a.toNat + b.toNat + c.toNat) % 256 := by
  change (BitVec.ofNat 8 _).toNat = _
  rw [BitVec.toNat_ofNat]
  omega

theorem specSub8_toNat (a b : Byte) (c : Bool) :
    ((specSub8 a b c).value.toNat : Int) = ((a.toNat : Int) - b.toNat - c.toNat) % 256 := by
  change (((BitVec.ofNat 8 _).toNat : Nat) : Int) = _
  rw [BitVec.toNat_ofNat]
  omega

/-- After any sum the high correction tests the whole sum, of which C is bit 8. -/
theorem daaHigh_specAdd8 (a b : Byte) (c : Bool) :
    daaHigh (specAdd8 a b c).value (specAdd8 a b c).flags = decide (a.toNat + b.toNat + c.toNat > 0x99) := by
  rw [daaHigh_eq, specAdd8_c, specAdd8_toNat, ← Bool.decide_or, decide_eq_decide]
  omega

section
variable {x y : Nat} (hx : x < 100) (hy : y < 100) (c : Bool)
include hx hy

/-- After a sum of BCD numbers the low correction is made when the low digits' sum exceeds 9. -/
theorem daaLow_bcd_sum {out : AluOut} (hout : out = specAdd8 (bcdByte x) (bcdByte y) c) :
    daaLow out.value out.flags = if x % 10 + y % 10 + c.toNat > 9 then 6 else 0 := by
  have hc := Bool.toNat_le c
  refine if_congr ?_ rfl rfl
  rw [hout, specAdd8_h, specAdd8_toNat, bcdByte_toNat hx, bcdByte_toNat hy, decide_eq_true_eq]
  omega

/-- After a sum of BCD numbers the high correction is made when the sum has three digits. -/
theorem daaHigh_bcd_sum {out : AluOut} (hout : out = specAdd8 (bcdByte x) (bcdByte y) c) :
    daaHigh out.value out.flags = decide (x + y + c.toNat ≥ 100) := by
  have hc := Bool.toNat_le c
  have htens := Nat.lt_or_ge (x / 10 + y / 10) 10
  rw [hout, daaHigh_specAdd8, bcdByte_toNat hx, bcdByte_toNat hy, decide_eq_decide]
  omega

/-- DAA after a sum of BCD numbers. -/
theorem daa_bcd_sum {out : AluOut} (hout : out = add8 (bcdByte x) (bcdByte y) c) :
    (daa out.value out.flags).value = bcdByte ((x + y + c.toNat) % 100) ∧
    (daa out.value out.flags).flags.c = decide (x + y + c.toNat ≥ 100) := by
  have hc := Bool.toNat_le c
  rw [add8_eq_spec] at hout
  have hn : out.flags.n = false := hout ▸ rfl
  have hhigh := daaHigh_bcd_sum hx hy c hout
  rw [daa_eq]
  refine ⟨byteOf_eq_bcdByte (Nat.mod_lt _ (by decide)) ?_, (if_pos hn).trans hhigh⟩
  rw [daaInt, if_pos hn, daaLow_bcd_sum hx hy c hout, hhigh, hout, specAdd8_toNat, bcdByte_toNat hx, bcdByte_toNat hy]
  simp only [decide_eq_true_eq]
  split <;> split <;> omega

/-- DAA after a difference of BCD numbers. -/
theorem daa_bcd_diff {out : AluOut} (hout : out = sub8 (bcdByte x) (bcdByte y) c) :
    (daa out.value out.flags).value = bcdByte ((x + 200 - y - c.toNat) % 100) ∧
    (daa out.value out.flags).flags.c = decide (x < y + c.toNat) := by
  have hc := Bool.toNat_le c
  rw [sub8_eq_spec] at hout
  have hn : ¬ out.flags.n = false := hout ▸ Bool.noConfusion
  have hborrow : out.flags.c = decide (x < y + c.toNat) := by
    rw [hout, specSub8_c, bcdByte_toNat hx, bcdByte_toNat hy, decide_eq_decide]
    omega
  have hlow : out.flags.h = decide (x % 10 < y % 10 + c.toNat) := by
    rw [hout, specSub8_h, bcdByte_toNat hx, bcdByte_toNat hy, decide_eq_decide]
    omega
  rw [daa_eq]
  refine ⟨byteOf_eq_bcdByte (Nat.mod_lt _ (by decide)) ?_, (if_neg hn).trans hborrow⟩
  rw [daaInt, if_neg hn, hlow, hborrow, hout, specSub8_toNat, bcdByte_toNat hx, bcdByte_toNat hy]
  simp only [decide_eq_true_eq]
  split <;> split <;> omega

end

/-- Settles O15: DAA's two corrections are the decimal carries or borrows of the two digits. -/
theorem decimalAdjustGivesBcdResults : Obligations.DecimalAdjustGivesBcdResults := by
  intro x y c
  obtain ⟨hsum, hcarry⟩ := daa_bcd_sum x.isLt y.isLt c rfl
  obtain ⟨hdiff, hborrow⟩ := daa_bcd_diff x.isLt y.isLt c rfl
  exact ⟨hsum, hcarry, hdiff, hborrow⟩

end Sys2Proof.Machine

/-! PROOFS, 16-bit arithmetic (41_alu16.md): INC, DEC and ADD HL on the register pairs, and the two instructions that add
a signed byte to SP. -/

namespace Sys2Proof.Machine

/-- R202: ADD HL,rr by `add16` on integers, with Z unchanged. -/
theorem exec_addHl_of_spec (p : Pair1) (s : State) : exec (.addHl p) s = .next { s with
    h := highByte (specAdd16 s.hl (s.pair1 p)).value, l := lowByte (specAdd16 s.hl (s.pair1 p)).value
    f := ⟨s.f.z, false, (specAdd16 s.hl (s.pair1 p)).h, (specAdd16 s.hl (s.pair1 p)).c⟩
    outcome := some (.executed 2) } := by
  rw [exec_addHl, ← add16_eq_spec]
  rfl

/-- Settles O17: each pair's row is one shared operation, and `add16` is R200's formula. -/
theorem pairArithmetic : Obligations.PairArithmetic := by
  intro s p
  obtain ⟨-, -, -, -, -, -, hencode, -⟩ := encodingFieldsFollowTheCodes
  obtain ⟨hadd, hinc, hdec⟩ := hencode p
  exact ⟨hinc, exec_incPair p s, hdec, exec_decPair p s, hadd, exec_addHl_of_spec p s⟩

/-- Settles O18: both instructions use the one adder, and `spPlus` is R201's formula under either parameter. -/
theorem addSpAndLdHlSp : Obligations.AddSpAndLdHlSp := by
  intro s r8
  rw [← spPlus_eq_spec]
  exact ⟨rfl, rfl, rfl, rfl⟩

end Sys2Proof.Machine

/-! PROOFS, rotates, shifts and bit operations (42_rotate_shift_bit.md): the operand forms by their rules on integers, the
mask of a bit, and the second byte of the extended rows. -/

namespace Sys2Proof.Machine

/-! ### The second byte of a row of the extended table (R109, R110) -/

/-- R110: the rotates and shifts are the rows whose field xx is 0. -/
theorem opcode_zero (y z : Nat) : opcode 0 y z = byteOf (8 * y + z) :=
  congrArg (fun n => byteOf (n + z)) (Nat.zero_add (8 * y))

/-- R104: the (HL) operand adds its code, 6, to the first row of its block. -/
theorem opcode_atHl (x y : Nat) : opcode x y (opndCode .atHl) = byteOf (64 * x + 6 + 8 * y) :=
  congrArg byteOf (Nat.add_right_comm (64 * x) (8 * y) 6)

/-- R110: the bytes of a rotate or shift by the codes of its operation and its operand. -/
theorem encode_rot_eq_byteOf (op : RotOp) (o : Opnd8) :
    encode (.rot op o) = [0xCB, byteOf (8 * rotCode op + opndCode o)] := by
  rw [encode_rot, opcode_zero]

/-! ### Rotates and shifts (R220 to R240) -/

/-- R220 to R223: an accumulator rotate by its rule on integers, with Z forced to 0. -/
theorem rotateA_of_spec (op : RotOp) (s : State) : rotateA op s = .next { s with
    a := (specRotate op s.a s.f.c).value, f := ⟨false, false, false, (specRotate op s.a s.f.c).carry⟩
    outcome := some (.executed 1) } := by
  rw [← rotate_eq_spec]
  rfl

/-- R225 to R240: a rotate or shift of an operand, read and then written, by its rule on integers. -/
theorem exec_rot_of_spec (op : RotOp) (o : Opnd8) (s : State) :
    exec (.rot op o) s = .next { (s.afterSrc8 o).dst8 o (specRotate op (s.src8 o) s.f.c).value with
      f := ⟨decide ((specRotate op (s.src8 o) s.f.c).value = 0), false, false, (specRotate op (s.src8 o) s.f.c).carry⟩
      outcome := some (.executed (opndCost o 2 4)) } := by
  rw [exec_rot, ← rotate_eq_spec]
  rfl

/-- Settles O19: the four are one shared operation, and `rotate` is the rules' formula. -/
theorem accumulatorRotates : Obligations.AccumulatorRotates := fun s =>
  ⟨rfl, rotateA_of_spec .rlc s, rfl, rotateA_of_spec .rrc s, rfl, rotateA_of_spec .rl s, rfl, rotateA_of_spec .rr s⟩

/-- Settles O20: the register form of the shared operation. -/
theorem rotatesOfRegisters : Obligations.RotatesOfRegisters := fun s op r =>
  ⟨encode_rot_eq_byteOf op (.reg r), exec_rot_of_spec op (.reg r) s⟩

/-- Settles O21: the (HL) form, a read and then a write of the one byte. -/
theorem rotatesOfTheByteAtHl : Obligations.RotatesOfTheByteAtHl := fun s op =>
  ⟨encode_rot_eq_byteOf op .atHl, _, exec_rot_of_spec op .atHl s,
    fun hf => (storesByte_afterRead_write8 hf ..).congr rfl rfl, rfl⟩

/-! ### BIT, RES and SET (R241 to R246) -/

/-- R12: the mask `1 << b` is the byte of `2 ^ b`. -/
theorem bitMask_eq_byteOf (b : Nat) : bitMask b = byteOf (2 ^ b) := congrArg byteOf (Nat.one_shiftLeft b)

/-- Settles O22: the bit `bitFlags` takes is by definition that of the byte's number; an operand of BIT is read and not
written. -/
theorem bitTests : Obligations.BitTests := fun s b r =>
  ⟨encode_bit b (.reg r), exec_bit b (.reg r) s,
    (encode_bit b .atHl).trans (by rw [opcode_atHl]), exec_bit b .atHl s⟩

/-- Settles O23: the masks are the rules' `1 << b`; the (HL) forms store the one byte whether or not it changes. -/
theorem resetAndSetBits : Obligations.ResetAndSetBits := by
  intro s b r
  rw [← bitMask_eq_byteOf]
  exact ⟨encode_res b (.reg r), exec_res b (.reg r) s, encode_set b (.reg r), exec_set b (.reg r) s,
    (encode_res b .atHl).trans (by rw [opcode_atHl]),
    ⟨_, exec_res b .atHl s, fun hf => (storesByte_afterRead_write8 hf ..).congr rfl rfl, rfl⟩,
    (encode_set b .atHl).trans (by rw [opcode_atHl]),
    ⟨_, exec_set b .atHl s, fun hf => (storesByte_afterRead_write8 hf ..).congr rfl rfl, rfl⟩⟩

end Sys2Proof.Machine

/-! PROOFS, loads and stores (43_loads.md): the whole next state of each form, the address of the high page, and what the
stores change on the reference bus. -/

namespace Sys2Proof.Machine

/-! ### Loads of A (R265, R267, R269, R271) -/

/-- R111: the address `0xFF00 + v` on unbounded integers; the sum stays below 2^16. -/
theorem highPage_eq_ofNat (v : Byte) : highPage v = BitVec.ofNat 16 (0xFF00 + v.toNat) := by
  rw [BitVec.ofNat_add, BitVec.ofNat_toNat]
  rfl

/-- Settles O25: the five are one shared operation at five addresses. -/
theorem accumulatorLoads : Obligations.AccumulatorLoads := by
  intro s a16 a8
  rw [← highPage_eq_ofNat, ← highPage_eq_ofNat]
  exact ⟨rfl, rfl, rfl, rfl, rfl, rfl, rfl, rfl, rfl, rfl⟩

/-! ### Loads and stores of one byte (R260 to R264, R266, R268, R270, R272 to R276) -/

/-- An instruction whose only access to the bus is a write of one byte: on the reference bus it stores that byte and
nothing else (R84). -/
theorem exec_storesByte {i : Instr} {s t : State} {n : Nat} {a : Word} {v : Byte} (hexec : exec i s = done n t)
    (hmem : t.mem = (s.write8 a v).mem) (hconfig : t.config = s.config) :
    ∃ u, exec i s = .next u ∧ (s.flat → StoresByte s u a v) ∧ u = { t with outcome := some (.executed n) } :=
  ⟨_, hexec, fun hf => (storesByte_write8 hf a v).congr hmem hconfig, rfl⟩

/-- Settles O24: each form is one shared operation; the bytes are those of the register codes, (HL) being code 6. -/
theorem loadsBetweenRegistersAndHl : Obligations.LoadsBetweenRegistersAndHl := by
  intro s dst r v
  obtain ⟨-, -, -, -, hencodeImm, -⟩ := encodingFieldsFollowTheCodes
  exact ⟨encode_ld8 (.reg dst) (.reg r), exec_ld8_reg_reg dst r s,
    hencodeImm (.reg dst) v, exec_ld8Imm_reg dst v s,
    (encode_ld8 (.reg dst) .atHl).trans (by rw [opcode_atHl]; rfl), exec_ld8_reg_hl dst s,
    encode_ld8 .atHl (.reg r), exec_storesByte (exec_ld8_hl_reg r s) rfl rfl,
    rfl, exec_storesByte (t := s.write8 s.hl v) rfl rfl rfl⟩

/-- R266, R268, R270, R272: a store of A to the byte at an address. -/
theorem exec_storeA {i : Instr} {s : State} {a : Word} {n : Nat} (h : exec i s = storeA a n s) :
    ∃ t, exec i s = .next t ∧ (s.flat → StoresByte s t a s.a) ∧
      t = { s.write8 a s.a with outcome := some (.executed n) } :=
  exec_storesByte h rfl rfl

/-- Settles O26: the five are one shared operation at five addresses. -/
theorem accumulatorStores : Obligations.AccumulatorStores := by
  intro s a16 a8
  rw [← highPage_eq_ofNat, ← highPage_eq_ofNat]
  exact ⟨rfl, exec_storeA rfl, rfl, exec_storeA rfl, rfl, exec_storeA rfl, rfl, exec_storeA rfl, rfl, exec_storeA rfl⟩

/-- R273, R275: a store of A to the byte at HL, after which HL is written; writing HL leaves the bus alone. -/
theorem exec_storeA_setHl {i : Instr} {s : State} {w : Word} {n : Nat}
    (h : exec i s = done n ((s.write8 s.hl s.a).setHl w)) :
    ∃ t, exec i s = .next t ∧ (s.flat → StoresByte s t s.hl s.a) ∧
      t = { (s.write8 s.hl s.a).setHl w with outcome := some (.executed n) } :=
  exec_storesByte h rfl rfl

/-- Settles O27: the address of each access is HL from before the step of HL. -/
theorem loadsAndStoresThatStepHl : Obligations.LoadsAndStoresThatStepHl :=
  fun _ => ⟨rfl, exec_storeA_setHl rfl, rfl, rfl, rfl, exec_storeA_setHl rfl, rfl, rfl⟩

/-! ### Loads and stores of a word (R277 to R279) -/

/-- Settles O28: the store is a 16-bit write, low byte first, whose second address wraps. -/
theorem wordLoads : Obligations.WordLoads := by
  intro s p v
  obtain ⟨-, -, -, -, -, hencode, -⟩ := encodingFieldsFollowTheCodes
  exact ⟨hencode p v, exec_ldPair p v s,
    rfl, ⟨_, rfl, fun hf => (storesWord_write16 hf v s.sp).congr rfl rfl, rfl⟩,
    rfl, rfl⟩

end Sys2Proof.Machine

/-! PROOFS, control flow and the stack (44_control_flow.md): what a push stores and a pop returns, the round trip on the
reference bus, the targets of the jumps, and the calls and returns. -/

namespace Sys2Proof.Machine

/-! ### PUSH and POP (R300, R301, R303 to R305) -/

/-- R34: the low nibble of AF is that of F. -/
theorem State.af_low_nibble (s : State) : s.af &&& 0x000F = 0 :=
  calc s.af &&& 0x000F = concat16 s.a s.f.toByte &&& concat16 0x00 0x0F := rfl
    _ = concat16 (s.a &&& 0x00) (s.f.toByte &&& 0x0F) := BitVec.and_append
    _ = concat16 0x00 0x00 := congrArg₂ concat16 BitVec.and_zero s.f.toByte_low_nibble

/-- An instruction whose only accesses to the bus are those of `push16`: on the reference bus it stores the word at the
new SP and nothing else (R84, R300). -/
theorem exec_pushesWord {i : Instr} {s t : State} {n : Nat} {v : Word} (hexec : exec i s = done n t)
    (hmem : t.mem = (s.push16 v).mem) (hconfig : t.config = s.config) :
    ∃ u, exec i s = .next u ∧ (s.flat → StoresWord s u (s.sp - 2) v) ∧ u = { t with outcome := some (.executed n) } :=
  ⟨_, hexec, fun hf => (storesWord_push16 hf v).congr hmem hconfig, rfl⟩

/-- Settles O29: each form is `push16` of its pair. -/
theorem pushStoresThePair : Obligations.PushStoresThePair := by
  intro s p
  obtain ⟨-, -, -, -, -, -, -, hencode, -⟩ := encodingFieldsFollowTheCodes
  obtain ⟨-, hpush⟩ := hencode p
  exact ⟨hpush, s.af_low_nibble, exec_pushesWord (exec_push p s) rfl rfl⟩

/-- R301: the low byte popped is the byte at SP. -/
theorem State.lowByte_popValue (s : State) : lowByte s.popValue = s.peek s.sp := lowByte_concat16 ..

/-- R301: the high byte popped is the byte at SP + 1, read second. -/
theorem State.highByte_popValue (s : State) : highByte s.popValue = (s.afterRead s.sp).peek (s.sp + 1) :=
  highByte_concat16 ..

/-- Settles O30: each form writes its pair with `pop16`'s value, whose two bytes are those read. -/
theorem popLoadsThePair : Obligations.PopLoadsThePair := by
  intro s
  rw [← State.lowByte_popValue, ← State.highByte_popValue]
  exact ⟨rfl, rfl, rfl, rfl, rfl, rfl, rfl, _, rfl, Flags.toByte_ofByte (lowByte s.popValue), rfl, rfl⟩

/-- R31: writing back what a pair reads changes nothing, F having no other storage than its four flags. -/
theorem State.setPair2_pair2 (s : State) (p : Pair2) : s.setPair2 p (s.pair2 p) = s := by
  cases p <;>
    simp [State.pair2, State.bc, State.de, State.hl, State.af, State.setBc, State.setDe, State.setHl, State.setAf,
      highByte_concat16, lowByte_concat16, Flags.ofByte_toByte]

/-- R84, R301: on the reference bus a pop raises SP by 2 and is recorded, no more. -/
theorem State.afterPop_of_flat {s : State} (h : s.flat) :
    ∃ accesses, s.afterPop = { s with sp := s.sp + 2, trace := accesses } :=
  ⟨_, by rw [State.afterPop, State.afterRead16, State.afterRead_of_flat h, State.afterRead_of_flat (by exact h)]⟩

/-- Settles O31: the value popped is the one pushed, SP comes back to where it was, and the pair is written with what it
holds. -/
theorem pushThenPopRestores : Obligations.PushThenPopRestores := by
  intro s p hf
  let t : State := { s.push16 (s.pair2 p) with outcome := some (.executed 4) }
  have hvalue : t.popValue = s.pair2 p := State.popValue_push16 hf (s.pair2 p)
  obtain ⟨accesses, hafter⟩ := State.afterPop_of_flat (s := t) hf
  let r : State := { s with mem := t.mem, trace := accesses, outcome := t.outcome }
  have hr : t.afterPop = r := by
    rw [hafter]
    exact congrArg (fun sp => { r with sp := sp }) (BitVec.sub_add_cancel s.sp 2)
  have hpop : exec (.pop p) t = done 3 r := by
    rw [exec_pop, popPair, hvalue, hr]
    exact congrArg (done 3) (r.setPair2_pair2 p)
  exact ⟨t, _, exec_push p s, hpop, rfl, (storesWord_push16 hf (s.pair2 p)).congr rfl rfl⟩

/-! ### JP and JR (R302, R306 to R310) -/

/-- A conditional instruction as one next state. -/
theorem done_ite (holds : Bool) (m n : Nat) (s t : State) : (if holds then done m s else done n t) =
    .next (if holds then { s with outcome := some (.executed m) } else { t with outcome := some (.executed n) }) :=
  (apply_ite Host.Outcome.next ..).symm

/-- R309: the sum modulo 2^16 of PC and the displacement of R12. -/
theorem add_sext16_eq_ofNat (pc : Word) (r8 : Byte) :
    pc + sext16 r8 = BitVec.ofNat 16 ((pc.toNat + specSext16 r8) % 65536) := by
  apply BitVec.eq_of_toNat_eq
  rw [BitVec.toNat_add, sext16_toNat, BitVec.toNat_ofNat, Nat.mod_mod]

/-- Settles O32: each form is one shared operation, its condition a test of one flag. -/
theorem jumpsGoWhereTheySay : Obligations.JumpsGoWhereTheySay := by
  intro s cc a16 r8 holds relative
  obtain ⟨-, -, -, -, -, -, -, -, -, hencode, -⟩ := encodingFieldsFollowTheCodes
  obtain ⟨hjp, -, hjr, -⟩ := hencode cc a16 r8
  have hholds : condHolds cc s.f = holds := by
    cases cc
    case nz | nc => exact (beq_false _).symm
    case z | c => exact (beq_true _).symm
  have hrelative : s.pc + sext16 r8 = relative := add_sext16_eq_ofNat s.pc r8
  rw [exec_jpCc, exec_jrCc, jumpIf, jumpRelativeIf, hholds, done_ite, done_ite, ← hrelative]
  exact ⟨rfl, rfl, hjp, rfl, rfl, rfl, rfl, rfl, hjr, rfl⟩

/-! ### CALL, RST and the returns (R311 to R316) -/

/-- Settles O33: each call is `push16` of PC, then the target in PC; a restart's target is 8 times its field. -/
theorem callsPushTheReturnAddress : Obligations.CallsPushTheReturnAddress := by
  intro s cc a16 v called
  obtain ⟨-, -, -, -, -, -, -, -, -, hencode, hrst, -⟩ := encodingFieldsFollowTheCodes
  obtain ⟨-, hcallCc, -⟩ := hencode cc a16 0
  obtain ⟨hrstBytes, htarget⟩ := hrst v
  have hcalled {i : Instr} {target : Word} {n : Nat} (h : exec i s = done n { s.push16 s.pc with pc := target }) :
      called i target n := exec_pushesWord h rfl rfl
  refine ⟨rfl, hcalled rfl, hcallCc, ?cond, hrstBytes, ?rst⟩
  case cond =>
    split
    case isTrue h => exact hcalled ((exec_callCc cc a16 s).trans (if_pos h))
    case isFalse h => exact (exec_callCc cc a16 s).trans (if_neg h)
  case rst =>
    rw [Nat.mul_comm, ← htarget]
    exact hcalled (exec_rst v s)

/-- Settles O34: each form is `pop16` into PC. -/
theorem returnsPopPc : Obligations.ReturnsPopPc := by
  intro s cc
  obtain ⟨-, -, -, -, -, -, -, -, -, hencode, -⟩ := encodingFieldsFollowTheCodes
  obtain ⟨-, -, -, hretCc⟩ := hencode cc 0 0
  have hexec : exec (.retCc cc) s = _ := (exec_retCc cc s).trans (done_ite ..)
  exact ⟨rfl, rfl, hretCc, hexec, rfl, rfl⟩

end Sys2Proof.Machine

/-! PROOFS, system instructions and the illegal opcodes (45_system.md): the prefix's cost, NOP, STOP, DI and EI, HALT, and
what an illegal opcode records, run alone and by a step. -/

namespace Sys2Proof.Machine

/-! ### PREFIX CB (R345) -/

/-- R345: the prefix's own M-cycle, and 1 for a register, 2 for BIT b,(HL), 3 for the other (HL) operations. -/
theorem prefixCb_takenCycles : ∀ op2 : Byte, (Instr.prefixCb op2).takenCycles =
    1 + (if op2 &&& 0x07 = 0x06 then (if op2 &&& 0xC0 = 0x40 then 2 else 3) else 1) := by
  decide

/-- Settles O7: the two bytes are those of the extended table's row, and the prefix keeps to its own cell. -/
theorem prefixRunsTheExtendedTable : Obligations.PrefixRunsTheExtendedTable := by
  intro op2 s
  obtain ⟨t, hexec, hout, -⟩ := prefixCb_keepsToCell op2 s
  have hcycles : cellCycles (.prefixCb op2) s.f = _ := prefixCb_takenCycles op2
  have hdecode (rest : List Byte) := decodeOfEncode (cbEntry op2) rest (cbEntry_wellFormed op2)
  rw [encode_cbEntry] at hdecode
  exact ⟨rfl, hdecode, exec_prefixCb op2 s, t, hexec, hcycles ▸ hout⟩

/-! ### NOP, STOP, DI, EI and HALT (R340 to R344) -/

/-- Settles O35: each form is by definition its one update of the control state. -/
theorem nopStopDiEi : Obligations.NopStopDiEi := fun _ _ => ⟨rfl, rfl, rfl, rfl, rfl, rfl, rfl, rfl⟩

/-- Settles O36: HALT's first test is of HALT_BUG and IME, its second, under the bug alone, of `pending()`. -/
theorem haltHaltsOrArmsTheBug : Obligations.HaltHaltsOrArmsTheBug := by
  intro s
  have hbug : (s.config.haltBug && !s.ime) = true ↔ s.config.haltBug = true ∧ s.ime = false := by simp
  dsimp only
  rw [apply_ite Host.Outcome.next, apply_ite Host.Outcome.next]
  exact ⟨rfl, if_congr hbug rfl rfl⟩

/-! ### The illegal opcodes (R360) -/

/-- R360, R47: the marker keeps what it holds, or takes the opcode and the address latched by its fetch. -/
theorem illegalOpcode_eq (op : Byte) (s : State) : illegalOpcode op s = .next { s with
    fault := if s.fault = none then some ⟨s.opAddr, op⟩ else s.fault, outcome := some (.executed 1) } := by
  unfold illegalOpcode
  split <;> rfl

/-- R102: with an opcode that asks for no more bytes, the fetch is the opcode's. -/
theorem State.fetch_of_opLength_one {s : State} (h : opLength (s.peek s.pc) = 1) :
    s.fetchedBytes = [s.peek s.pc] ∧ s.afterFetch = s.afterOpcode := by
  rw [State.fetchedBytes, State.afterFetch, h]
  exact ⟨rfl, rfl⟩

/-- R102, R115: an illegal opcode has no operand byte. -/
theorem opLength_illegalByte (k : IllegalSlot) : opLength (illegalByte k) = 1 := by cases k <;> decide

/-- R115, R117: the byte of an illegal slot decodes to its entry. -/
theorem decode_illegalByte (k : IllegalSlot) : decode [illegalByte k] = .ok (Instr.illegal k) [] := by
  simpa only [encode_illegal, List.append_nil] using decodeOfEncode (.illegal k) [] (illegal_wellFormed k)

/-- R400: a step that is not stuck, wakes if it was halted and takes no interrupt executes one instruction. -/
theorem step_eq_executeOne {s : State} (hs : s.isStuck = false) (hwake : s.halted = true → s.pending ≠ 0)
    (hirq : s.ime = false ∨ s.woken.pending = 0) : step s = executeOne s.checked := by
  obtain ⟨h, -⟩ | ⟨-, hhalted, hidle, -⟩ | ⟨-, -, hime, hpending, -⟩ | ⟨-, -, -, h⟩ := step_cases s
  · exact absurd (hs.symm.trans h) nofun
  · exact absurd hidle (hwake hhalted)
  · obtain h | h := hirq
    · exact absurd (h.symm.trans hime) nofun
    · exact absurd h hpending
  · exact h

/-- R360: executing an illegal opcode fetches no further byte, and records it with the address it was fetched from if
nothing is recorded yet. -/
theorem executeOne_illegal {s : State} {k : IllegalSlot} (hpeek : s.peek s.pc = illegalByte k) :
    executeOne s = .next (State.retire s.eiPending { s.afterOpcode with
      fault := if s.fault = none then some ⟨s.pc, illegalByte k⟩ else s.fault, outcome := some (.executed 1) }) := by
  obtain ⟨hbytes, hafter⟩ := State.fetch_of_opLength_one (hpeek ▸ opLength_illegalByte k)
  obtain ⟨i, u, hdecode, hexec, hone⟩ := executeOne_eq s
  rw [hbytes, hpeek, decode_illegalByte] at hdecode
  cases hdecode
  rw [exec_illegal, illegalOpcode_eq, hafter] at hexec
  cases hexec
  exact hone

/-- Settles O37: a step that runs an illegal opcode executes it after the checks, which leave PC, the armed bug and the
marker alone; so do the EI delay and the timer. -/
theorem illegalOpcodesAreRecorded : Obligations.IllegalOpcodesAreRecorded := by
  refine ⟨fun s k => ⟨encode_illegal k, (exec_illegal k s).trans (illegalOpcode_eq _ s)⟩,
    fun s k hs hhalted hirq hpeek => ?_⟩
  have hwoken : s.woken.pending = s.pending := by rw [State.woken, hhalted]; rfl
  have hrun := step_eq_executeOne hs (fun h => absurd (hhalted.symm.trans h) nofun) (hwoken ▸ hirq)
  obtain ⟨hpc, harmed, hfault⟩ : s.checked.pc = s.pc ∧ s.checked.haltBugArmed = s.haltBugArmed ∧
      s.checked.fault = s.fault := by
    rw [s.checked_frame]
    exact ⟨rfl, rfl, rfl⟩
  rw [← hpc] at hpeek
  refine ⟨_, hrun.trans (executeOne_illegal hpeek), ?_⟩
  rw [State.retire_frame, ← hpc, ← harmed, ← hfault]
  exact ⟨rfl, rfl, rfl⟩

end Sys2Proof.Machine

/-! PROOFS, exceptions (60_exceptions.md): the parts of the step, stuck, idle and waking; taking an interrupt and the EI
delay; the model's own fields; the timer; and the inputs of the host. -/

namespace Sys2Proof.Machine

/-! ### The parts of the step (R400, R401) -/

/-- R403, R404: a core is stuck when it is stopped, or locked by a recorded fault. -/
theorem State.isStuck_iff (s : State) :
    s.isStuck = true ↔ s.stopped = true ∨ (s.config.illegalPolicy = .lock ∧ s.fault ≠ none) := by
  simp [State.isStuck, Option.isSome_iff_ne_none]

/-- R400 part 1. -/
theorem step_eq_stuck {s : State} (hs : s.isStuck = true) :
    step s = .next { s with trace := [], outcome := some .stuck } := if_pos hs

/-- R400 part 2, nothing pending: an idle step. -/
theorem step_eq_idle {s : State} (hs : s.isStuck = false) (hhalted : s.halted = true) (hidle : s.pending = 0) :
    step s = .next (State.timer 1 { s.afterPending with trace := pendingReads s, outcome := some (.idle 1) }) := by
  obtain ⟨h, -⟩ | ⟨-, -, -, h⟩ | ⟨-, hwake, -⟩ | ⟨-, hwake, -⟩ := step_cases s
  · exact absurd (hs.symm.trans h) nofun
  · exact h
  · exact absurd hidle (hwake hhalted)
  · exact absurd hidle (hwake hhalted)

/-- R400 parts 3 and 4: a core that is running or wakes. -/
theorem step_eq_interruptOrExecute {s : State} (hs : s.isStuck = false) (hwake : s.halted = true → s.pending ≠ 0) :
    step s = interruptOrExecute s.woken := by
  have hrun : step s = wakeOrGoOn { s with trace := [] } := if_neg (Bool.eq_false_iff.1 hs)
  rw [hrun, State.woken]
  by_cases hhalted : s.halted = true
  · rw [if_pos hhalted]
    exact (if_pos hhalted).trans (if_neg (hwake hhalted))
  · rw [if_neg hhalted]
    exact if_neg hhalted

/-- R401: every step answers a next state, with the outcome of the part of R400 that it ends in. -/
theorem step_outcome (s : State) : ∃ t, step s = .next t ∧
    ((s.isStuck = true ∧ t.outcome = some .stuck) ∨
      (s.isStuck = false ∧ s.halted = true ∧ t.outcome = some (.idle 1) ∧ t.ime = s.ime ∧ t.eiPending = s.eiPending) ∨
      (s.isStuck = false ∧ s.ime = true ∧ s.woken.pending ≠ 0 ∧
        ∃ k, t.outcome = some (.dispatch k 5) ∧ t.ime = false ∧ t.eiPending = false) ∨
      (s.isStuck = false ∧ (s.ime = false ∨ s.woken.pending = 0) ∧ ∃ n, t.outcome = some (.executed n))) := by
  obtain ⟨hs, e⟩ | ⟨hs, hhalted, -, e⟩ | ⟨hs, -, hime, hpending, k, -, e⟩ | ⟨hs, -, hirq, e⟩ := step_cases s
  · exact ⟨_, e, .inl ⟨hs, rfl⟩⟩
  · refine ⟨_, e, ?_⟩
    rw [timer_frame_self]
    exact .inr (.inl ⟨hs, hhalted, rfl, rfl, rfl⟩)
  · refine ⟨_, e, ?_⟩
    rw [dispatchStep_checked_frame]
    exact .inr (.inr (.inl ⟨hs, hime, hpending, k, rfl, rfl, rfl⟩))
  · obtain ⟨_, u, -, -, hone⟩ := executeOne_eq s.checked
    exact ⟨_, e.trans hone, .inr (.inr (.inr ⟨hs, hirq, executeOne_outcome hone⟩))⟩

/-- Settles O40: the four outcomes, of which `Stuck` is that of part 1. -/
theorem stepIsTotal : Obligations.StepIsTotal := by
  intro s
  rw [← s.isStuck_iff]
  obtain ⟨t, hstep, hcases⟩ := step_outcome s
  obtain ⟨o, ho, hstuck, hidle, hdispatch⟩ : ∃ o, t.outcome = some o ∧ (o = .stuck ↔ s.isStuck = true) ∧
      (∀ n, o = .idle n → n = 1) ∧ ∀ k n, o = .dispatch k n → n = 5 := by
    obtain ⟨hs, ho⟩ | ⟨hs, -, ho, -⟩ | ⟨hs, -, -, k, ho, -⟩ | ⟨hs, -, n, ho⟩ := hcases
    · exact ⟨_, ho, iff_of_true rfl hs, nofun, nofun⟩
    · exact ⟨_, ho, iff_of_false nofun (Bool.eq_false_iff.1 hs), fun _ h => by cases h; rfl, nofun⟩
    · exact ⟨_, ho, iff_of_false nofun (Bool.eq_false_iff.1 hs), nofun, fun _ _ h => by cases h; rfl⟩
    · exact ⟨_, ho, iff_of_false nofun (Bool.eq_false_iff.1 hs), nofun, nofun⟩
  refine ⟨t, o, hstep, ho, hstuck, .rfl, fun hpolicy hstopped => ?_, hidle, hdispatch⟩
  have hs : s.isStuck = false := by simp [State.isStuck, hpolicy, hstopped]
  exact ⟨hs, mt hstuck.1 (Bool.eq_false_iff.1 hs)⟩

/-- `n + 1` steps from a state whose step is known. -/
theorem runSteps_succ {s t : State} (hstep : step s = .next t) (n : Nat) : runSteps (n + 1) s = runSteps n t := by
  rw [runSteps, hstep]

/-- R403, R404: a stuck core stays as it is for any number of steps. -/
theorem runSteps_of_stuck (n : Nat) {s : State} (hs : s.isStuck = true) :
    ∃ t, runSteps n s = .next t ∧ t.arch = s.arch := by
  induction n generalizing s with
  | zero => exact ⟨s, rfl, rfl⟩
  | succ n ih =>
    obtain ⟨t, hrun, harch⟩ := ih (s := { s with trace := [], outcome := some .stuck }) hs
    exact ⟨t, (runSteps_succ (step_eq_stuck hs) n).trans hrun, harch⟩

/-- Settles O41: the step is that of part 1, and leaves the core stuck. -/
theorem stuckStepsChangeNothing : Obligations.StuckStepsChangeNothing := by
  intro s hs
  rw [← s.isStuck_iff] at hs
  exact ⟨step_eq_stuck hs, rfl, fun n => runSteps_of_stuck n hs⟩

/-- Settles O42: after its two reads an idle step runs the timer alone. -/
theorem idleStepsOnlyRunTheTimer : Obligations.IdleStepsOnlyRunTheTimer := by
  intro s hs hhalted hidle
  have hstep := step_eq_idle hs hhalted hidle
  exact ⟨hstep, _, hstep, timer_frame_self ..⟩

/-- Settles O38: with no interrupt taken, the instruction executed is the one the fetched bytes decode to. -/
theorem stepRunsTheDecodedInstruction : Obligations.StepRunsTheDecodedInstruction := by
  intro s i rest hs hwake hirq hdecode
  obtain ⟨j, u, hj, hexec, hone⟩ := executeOne_eq s.checked
  cases hj.symm.trans hdecode
  have hei : s.checked.eiPending = s.eiPending := by rw [s.checked_frame]
  rw [hei] at hone
  exact ⟨u, hexec, (step_eq_executeOne hs hwake hirq).trans hone⟩

/-- Settles O47: an instruction runs with the core awake and the halt bug disarmed, and no other part of the step
suspends the core or arms the bug. -/
theorem onlyHaltAndStopSuspend : Obligations.OnlyHaltAndStopSuspend := by
  intro s t hstep
  cases stepsTo_of_step hstep with
  | stuck _ => simp_all
  | idle _ => rw [timer_frame_self]; simp_all
  | dispatch k _ => rw [dispatchStep_checked_frame]; simp_all
  | execute i u _ hdecode hexec =>
    have hctl := (exec_ctl hexec).2
    rw [s.afterFetch_checked_frame] at hctl
    rw [u.retire_frame]
    refine ⟨fun _ hu => ?_, fun hs hu => ?_, fun _ hu => ?_⟩
    · obtain e | ⟨rfl, -⟩ := hctl.halted
      · exact absurd (hu.symm.trans e) nofun
      · exact ⟨[], hdecode⟩
    · obtain e | ⟨⟨v, rfl⟩, -⟩ := hctl.stopped
      · exact absurd (hu.symm.trans (e.trans hs)) nofun
      · exact ⟨v, [], hdecode⟩
    · obtain e | ⟨rfl, -⟩ := hctl.armed
      · exact absurd (hu.symm.trans e) nofun
      · exact ⟨[], hdecode⟩

/-! ### The EI delay and taking an interrupt (R405, R414 to R417) -/

/-- Settles O45: an instruction step ends with the EI delay's end and the timer, which leaves IME alone. -/
theorem eiTakesEffectAfterTheNextInstruction : Obligations.EiTakesEffectAfterTheNextInstruction := by
  refine ⟨fun s t i rest hs hwake hirq hdecode hstep => ?_, fun s t n hstep ho => ?_, fun s t k n hstep ho => ?_⟩
  · obtain ⟨u, hexec, hu⟩ := stepRunsTheDecodedInstruction s i rest hs hwake hirq hdecode
    have ht : t = u.retire s.eiPending := Host.Outcome.next.inj (hstep.symm.trans hu)
    rw [ht, u.retire_frame]
    exact ⟨u, hexec, rfl, rfl⟩
  · obtain ⟨_, h, hcases⟩ := step_outcome s
    cases h.symm.trans hstep
    obtain ⟨-, e⟩ | ⟨-, -, -, hkept⟩ | ⟨-, -, -, _, e, -⟩ | ⟨-, -, _, e⟩ := hcases
    · cases e.symm.trans ho
    · exact hkept
    · cases e.symm.trans ho
    · cases e.symm.trans ho
  · obtain ⟨_, h, hcases⟩ := step_outcome s
    cases h.symm.trans hstep
    obtain ⟨-, e⟩ | ⟨-, -, e, -⟩ | ⟨-, hime, -, _, -, hcleared⟩ | ⟨-, -, _, e⟩ := hcases
    · cases e.symm.trans ho
    · cases e.symm.trans ho
    · exact ⟨hime, hcleared⟩
    · cases e.symm.trans ho

/-- R414: the mask of an interrupt's bit. -/
theorem bitMask_irq (k : Irq) : bitMask k.bit = byteOf (2 ^ k.bit) := by cases k <;> rfl

/-- R421: the state after part 2, its record begun anew. -/
theorem State.woken_eq (s : State) : s.woken =
    if s.halted then { s.afterPending with halted := false, trace := pendingReads s } else { s with trace := [] } := rfl

/-- R84, R411: on the reference bus the reads of `pending()` leave every byte alone. -/
theorem State.peek_afterPending_of_flat {s : State} (hf : s.flat) (x : Word) : s.afterPending.peek x = s.peek x :=
  (State.peek_afterRead_of_flat (s := s.afterRead addrIe) hf addrIf x).trans (State.peek_afterRead_of_flat hf addrIe x)

/-- Waking changes no parameter. -/
theorem State.flat_woken {s : State} (hf : s.flat) : s.woken.flat :=
  (congrArg (fun t : State => t.config.bus) s.woken_frame).trans hf

/-- R84, R421: on the reference bus the reads of part 2 leave every byte alone. -/
theorem State.peek_woken_of_flat {s : State} (hf : s.flat) (x : Word) : s.woken.peek x = s.peek x := by
  rw [State.woken_eq]
  split
  · exact State.peek_afterPending_of_flat hf x
  · rfl

/-- R84, R411: on the reference bus `pending()` finds the bytes of IE and IF. -/
theorem State.pending_of_flat {s : State} (hf : s.flat) : s.pending = s.peek addrIe &&& s.peek addrIf &&& 0x1F := by
  rw [State.pending, State.peek_afterRead_of_flat hf]

/-- R400 part 3: with IME = 1 the lowest pending interrupt is taken. -/
theorem step_eq_dispatchStep {s : State} {k : Irq} (hs : s.isStuck = false) (hime : s.ime = true)
    (hwake : s.halted = true → s.pending ≠ 0) (hlowest : lowestIrq s.woken.pending = some k) :
    step s = .next (dispatchStep k s.checked) := by
  obtain ⟨h, -⟩ | ⟨-, hhalted, hidle, -⟩ | ⟨-, -, -, -, j, hj, hstep⟩ | ⟨-, -, h, -⟩ := step_cases s
  · exact absurd (hs.symm.trans h) nofun
  · exact absurd hidle (hwake hhalted)
  · cases hj.symm.trans hlowest
    exact hstep
  · obtain h | h := h
    · exact absurd (hime.symm.trans h) nofun
    · exact absurd (hlowest.symm.trans ((lowestIrq_pending_none s.woken).2 h)) nofun

/-- R416: taking an interrupt, access by access. -/
theorem State.takeInterrupt_eq (k : Irq) (s : State) : s.takeInterrupt k =
    { (((s.afterRead addrIf).write8 addrIf (s.peek addrIf &&& ~~~ byteOf (2 ^ k.bit))).write8 (s.sp - 2)
        (lowByte s.returnAddress)).write8 (s.sp - 2 + 1) (highByte s.returnAddress) with
      sp := s.sp - 2, pc := k.vector, ime := false, eiPending := false, haltBugArmed := false } := by
  rw [← bitMask_irq]
  rfl

/-- R84, R416: on the reference bus, what the accesses of a dispatch leave at every address. -/
theorem State.peek_takeInterrupt_of_flat {s : State} (hf : s.flat) (k : Irq) (x : Word) : (s.takeInterrupt k).peek x =
    if x = s.sp - 1 then highByte s.returnAddress else if x = s.sp - 2 then lowByte s.returnAddress
    else if x = addrIf then s.peek addrIf &&& ~~~ byteOf (2 ^ k.bit) else s.peek x := by
  have hsp : s.sp - 2 + 1 = s.sp - 1 := by bv_omega
  rw [s.takeInterrupt_eq, hsp]
  refine (State.peek_writeAs_of_flat ?_ false (s.sp - 1) x _).trans ?_
  · exact hf
  rw [State.write8, State.peek_writeAs_of_flat (by exact hf), State.write8, State.peek_writeAs_of_flat (by exact hf),
    State.peek_afterRead_of_flat hf]

/-- R400 part 3: with IME = 1 the check reads `pending()`. -/
theorem State.checked_of_ime {s : State} (hime : s.ime = true) : s.checked = s.woken.afterPending :=
  if_pos ((congrArg State.ime s.woken_frame).trans hime)

/-- R84, R400: on the reference bus the checks leave every byte alone. -/
theorem State.peek_checked_of_flat {s : State} (hf : s.flat) (hime : s.ime = true) (x : Word) :
    s.checked.peek x = s.peek x := by
  rw [State.checked_of_ime hime, State.peek_afterPending_of_flat (State.flat_woken hf), State.peek_woken_of_flat hf]

/-- Settles O44: the interrupt is taken in the state after the checks, which leave SP, PC and the armed bug alone. -/
theorem dispatchTakesTheLowestInterrupt : Obligations.DispatchTakesTheLowestInterrupt := by
  intro s k hs hime hwake w
  have hw : w = s.woken := rfl
  clear_value w
  subst hw
  intro p c ret cleared hset hlower
  have hp : p = s.woken.pending := rfl
  have hc : c = s.checked := (State.checked_of_ime hime).symm
  clear_value p c
  subst hp hc
  have hstep := step_eq_dispatchStep hs hime hwake (lowestIrq_eq _ k hset hlower)
  obtain ⟨hsp, hret, hconfig⟩ : s.checked.sp = s.sp ∧ s.checked.returnAddress = ret ∧ s.checked.config = s.config := by
    rw [s.checked_frame]
    exact ⟨rfl, rfl, rfl⟩
  refine ⟨{ s.checked.takeInterrupt k with outcome := some (.dispatch k 5) }, hstep, ?_, fun hf => ⟨?_, fun x => ?_⟩⟩
  · rw [State.takeInterrupt_eq, hsp, hret]
    rfl
  · rw [State.pending_of_flat (State.flat_woken hf), State.peek_woken_of_flat hf, State.peek_woken_of_flat hf]
    rfl
  · have hflat : s.checked.flat := (congrArg Config.bus hconfig).trans hf
    refine (State.peek_takeInterrupt_of_flat hflat k x).trans ?_
    rw [hsp, hret, State.peek_checked_of_flat hf hime, State.peek_checked_of_flat hf hime]
    rfl

/-! ### The model's own fields (notes/assumptions/7.md) and waking (R421) -/

/-- R411: what `pending()` returns depends on no own field. -/
theorem pending_own (p x o) (s : State) : (own p x o s).pending = s.pending := by
  simp only [State.pending, own_afterRead, own_peek]

/-- R411: the accesses of `pending()` depend on no own field. -/
theorem afterPending_own (p x o) (s : State) : (own p x o s).afterPending = own p x o s.afterPending := by
  simp only [State.afterPending, own_afterRead]

/-- R400 parts 3 and 4: another record before, latched address and outcome change nothing but the record and the latched
address, which an instruction's fetch overwrites and a dispatch keeps. -/
theorem interruptOrExecute_own (p x o) (s : State) : ∃ t y, interruptOrExecute s = .next t ∧
    interruptOrExecute (own p x o s) = .next (own p y t.outcome t) ∧ (x = s.opAddr → y = t.opAddr) := by
  have hlowest : lowestIrq (own p x o s).pending = lowestIrq s.pending := by rw [pending_own]
  by_cases hime : s.ime = true
  · cases hk : lowestIrq s.pending with
    | some k =>
      refine ⟨dispatchStep k s.afterPending, x, ?_, ?_, ?_⟩
      · rw [interruptOrExecute, if_pos hime, hk]
      · rw [interruptOrExecute, if_pos (show (own p x o s).ime = true from hime), hlowest, hk, afterPending_own,
          dispatchStep_outcome, ← dispatch_own k p x o]
      · rintro rfl
        obtain ⟨_, h, -⟩ := dispatchStep_frame k s.afterPending
        rw [h]
        rfl
    | none =>
      obtain ⟨t, h, h'⟩ := executeOne_own p x o s.afterPending
      refine ⟨t, t.opAddr, ?_, ?_, fun _ => rfl⟩
      · rw [interruptOrExecute, if_pos hime, hk]
        exact h
      · rw [interruptOrExecute, if_pos (show (own p x o s).ime = true from hime), hlowest, hk, afterPending_own]
        exact h'
  · obtain ⟨t, h, h'⟩ := executeOne_own p x o s
    exact ⟨t, t.opAddr, (if_neg hime).trans h, (if_neg hime).trans h', fun _ => rfl⟩

/-- The state after part 2 of R400 holds the own fields it found but for the record. -/
theorem woken_own (p x o) (s : State) : (own p x o s).woken = own [] x o s.woken := by
  rw [State.woken_eq, State.woken_eq]
  by_cases hhalted : s.halted = true
  · rw [if_pos hhalted, if_pos (show (own p x o s).halted = true from hhalted), afterPending_own]
    rfl
  · rw [if_neg hhalted, if_neg (show ¬ (own p x o s).halted = true from hhalted)]
    rfl

/-- A step from a state with other own fields: the latched address alone can differ after it. -/
theorem step_own (x o) (s : State) :
    ∃ t y, step s = .next t ∧ step (own [] x o s) = .next (own [] y t.outcome t) := by
  by_cases hs : s.isStuck = true
  · exact ⟨_, x, step_eq_stuck hs, step_eq_stuck (s := own [] x o s) hs⟩
  rw [Bool.not_eq_true] at hs
  by_cases hidle : s.halted = true ∧ s.pending = 0
  · refine ⟨_, x, step_eq_idle hs hidle.1 hidle.2,
      (step_eq_idle (s := own [] x o s) hs hidle.1 ((pending_own ..).trans hidle.2)).trans ?_⟩
    rw [timer_outcome, afterPending_own, ← own_timer]
    rfl
  · rw [not_and] at hidle
    obtain ⟨t, y, h, h', -⟩ := interruptOrExecute_own [] x o s.woken
    refine ⟨t, y, (step_eq_interruptOrExecute hs hidle).trans h, ?_⟩
    rw [step_eq_interruptOrExecute (s := own [] x o s) hs (pending_own [] x o s ▸ hidle), woken_own]
    exact h'

/-- A state is another one with the same architectural part, but for the own fields. -/
theorem State.eq_of_arch_eq {s s' : State} (h : s.arch = s'.arch) :
    s' = { s with trace := s'.trace, opAddr := s'.opAddr, outcome := s'.outcome } :=
  congrArg (fun u : State => { u with trace := s'.trace, opAddr := s'.opAddr, outcome := s'.outcome }) h.symm

/-- Settles O49: the second state is the first with other own fields. -/
theorem ownFieldsDoNotInfluenceTheMachine : Obligations.OwnFieldsDoNotInfluenceTheMachine := by
  intro s s' harch
  obtain ⟨t, y, hstep, hstep'⟩ := step_own s'.opAddr s'.outcome s
  exact ⟨t, _, hstep, (congrArg step (State.eq_of_arch_eq harch)).trans hstep', rfl, rfl, rfl⟩

/-- R421, R400: a halted core that wakes steps as the core that is awake after the same reads, its record apart. -/
theorem step_eq_of_wakes {s : State} (hs : s.isStuck = false) (hhalted : s.halted = true) (hpending : s.pending ≠ 0) :
    ∃ u, step { s.afterPending with halted := false } = .next u ∧
      step s = .next { u with trace := pendingReads s ++ u.trace } := by
  let awake : State := { s.afterPending with halted := false }
  obtain ⟨u, y, h, h', hy⟩ := interruptOrExecute_own (pendingReads s) s.opAddr s.outcome awake.woken
  have hwoken : s.woken = own (pendingReads s) s.opAddr s.outcome awake.woken := if_pos hhalted
  rw [← hwoken, hy rfl] at h'
  exact ⟨u, (step_eq_interruptOrExecute (s := awake) hs nofun).trans h,
    (step_eq_interruptOrExecute hs fun _ => hpending).trans h'⟩

/-- Settles O43: the core that wakes steps as the one awake, whose outcome IME and the second check decide. -/
theorem haltWakesOnAPendingInterrupt : Obligations.HaltWakesOnAPendingInterrupt := by
  intro s hs hhalted hpending awake
  obtain ⟨u, hawake, hstep⟩ := step_eq_of_wakes hs hhalted hpending
  refine ⟨fun hf => ?_, _, u, hstep, hawake, rfl, ?_⟩
  · have hpeek : ∀ x, awake.peek x = s.peek x := State.peek_afterPending_of_flat hf
    have h : awake.pending = s.pending := by
      rw [State.pending_of_flat (s := awake) hf, State.pending_of_flat hf, hpeek, hpeek]
    rwa [h]
  · obtain ⟨_, h, hcases⟩ := step_outcome awake
    cases h.symm.trans hawake
    have hstays (hime : s.ime = true) (hirq : awake.pending ≠ 0) : ¬ (s.ime = false ∨ awake.pending = 0) :=
      not_or.2 ⟨fun h => absurd (hime.symm.trans h) nofun, hirq⟩
    obtain ⟨h, -⟩ | ⟨-, h, -⟩ | ⟨-, hime, hirq, k, ho, -⟩ | ⟨-, hirq, ho⟩ := hcases
    · exact absurd (hs.symm.trans h) nofun
    · exact absurd h nofun
    · exact ⟨fun _ _ => ⟨k, ho⟩, fun h => absurd h (hstays hime hirq)⟩
    · exact ⟨fun hime hp => absurd hirq (hstays hime hp), fun _ => ho⟩

/-! ### The timer (R430 to R433) -/

/-- The DIV loop starts from the accumulator it is given. -/
theorem drainDiv_withDivAcc (acc n : Nat) (s : State) : State.drainDiv acc { s with divAcc := n } = s.drainDiv acc := rfl

/-- So does the TIMA loop. -/
theorem drainTima_withTimaAcc (period acc n : Nat) (s : State) :
    State.drainTima period acc { s with timaAcc := n } = s.drainTima period acc := rfl

/-- R430: the DIV loop with enough turns drains its accumulator. -/
theorem specDivLoop_eq_drainDiv (fuel : Nat) {s : State} (h : s.divAcc ≤ fuel) :
    specDivLoop fuel s = s.drainDiv s.divAcc := by
  induction fuel generalizing s with
  | zero => exact (drainDiv_done s.divAcc s (by omega)).symm
  | succ fuel ih =>
    rw [specDivLoop]
    split
    case isTrue hturn =>
      have hless : s.divAcc - 256 ≤ fuel := by omega
      rw [drainDiv_turn s.divAcc s hturn, ← drainDiv_withDivAcc _ (s.divAcc - 256) s.divTick, ← divTick_divAcc]
      exact ih hless
    case isFalse hdone => exact (drainDiv_done s.divAcc s (Nat.lt_of_not_ge hdone)).symm

/-- The specification's turn is the model's TIMA increment (R433). -/
theorem specTimaTurn_eq_timaTick (s : State) : specTimaTurn s = s.timaTick := rfl

/-- R430: the TIMA loop with enough turns drains its accumulator. -/
theorem specTimaLoop_eq_drainTima {period : Nat} (hperiod : 0 < period) (fuel : Nat) {s : State} (h : s.timaAcc ≤ fuel) :
    specTimaLoop period fuel s = s.drainTima period s.timaAcc := by
  induction fuel generalizing s with
  | zero => exact (drainTima_done period s.timaAcc s (by omega)).symm
  | succ fuel ih =>
    rw [specTimaLoop]
    split
    case isTrue hturn =>
      have hless : s.timaAcc - period ≤ fuel := by omega
      rw [drainTima_turn period s.timaAcc s hperiod hturn, specTimaTurn_eq_timaTick, timaTick_timaAcc,
        ← drainTima_withTimaAcc period _ (s.timaAcc - period) s.timaTick]
      exact ih hless
    case isFalse hdone => exact (drainTima_done period s.timaAcc s (Nat.lt_of_not_ge hdone)).symm

/-- R49, R432: the two readings of TAC bits 1..0. -/
theorem timaPeriod_eq_specPeriod : ∀ tac : Byte, timaPeriod tac = specPeriod tac := by decide

/-- Settles O53: each loop drains its accumulator, which bounds its turns. -/
theorem timerRunsItsLoops : Obligations.TimerRunsItsLoops := by
  intro m s
  have hdiv : specDivLoop (s.divAcc + 4 * m) { s with divAcc := s.divAcc + 4 * m } = s.drainDiv (s.divAcc + 4 * m) :=
    specDivLoop_eq_drainDiv _ (Nat.le_refl _)
  rw [specTimer]
  dsimp only
  rw [hdiv]
  by_cases hon : ((s.drainDiv (s.divAcc + 4 * m)).peek addrTac).getLsbD 2 = true
  · rw [timer_on hon, if_pos hon, ← timaPeriod_eq_specPeriod]
    generalize s.drainDiv (s.divAcc + 4 * m) = d
    exact (specTimaLoop_eq_drainTima (timaPeriod_pos _) _
      (s := { d.afterRead addrTac with timaAcc := d.timaAcc + 4 * m }) (Nat.le_refl _)).symm
  · rw [timer_off hon, if_neg hon]

/-- A byte counted up modulo 256. -/
theorem byte_add_eq_byteOf (v : Byte) (n : Nat) : v + BitVec.ofNat 8 n = byteOf ((v.toNat + n) % 256) := by
  apply BitVec.eq_of_toNat_eq
  simp [byteOf]

/-- Settles O54: DIV is counted up by the number of turns of its loop. -/
theorem divCountsEvery256Clocks : Obligations.DivCountsEvery256Clocks := by
  refine ⟨fun m a v _ => Bus.reference_keeps_timer_writes m a v, fun m s => ?_⟩
  rw [timer_divAcc, ← byte_add_eq_byteOf]
  refine ⟨rfl, Nat.mod_lt _ (by decide), fun hstores => ?_, fun hf => ?_⟩
  · exact peek_divTicks_of_stores _ (s := { s with divAcc := (s.divAcc + 4 * m) % divPeriod }) hstores
  · rw [timer_peek m hf]
    rfl

/-- R432, R433: on the reference bus, TIMA after `timer(m)`. -/
theorem timer_peek_tima (m : Nat) {s : State} (hf : s.flat) : (State.timer m s).peek addrTima =
    if (s.peek addrTac).getLsbD 2 then
      timaAfter (s.peek addrTma) ((s.timaAcc + 4 * m) / timaPeriod (s.peek addrTac)) (s.peek addrTima)
    else s.peek addrTima := timer_peek m hf addrTima

/-- R433: on the reference bus, IF after `timer(m)`. -/
theorem timer_peek_if (m : Nat) {s : State} (hf : s.flat) : (State.timer m s).peek addrIf =
    if (s.peek addrTac).getLsbD 2 then
      if (s.peek addrTima).toNat + (s.timaAcc + 4 * m) / timaPeriod (s.peek addrTac) ≥ 256 then s.peek addrIf ||| 0x04
      else s.peek addrIf
    else s.peek addrIf := timer_peek m hf addrIf

/-- Settles O55: TAC bit 2 decides, for the sub-counter, TIMA and IF alike. -/
theorem timaCountsAndReloads : Obligations.TimaCountsAndReloads := by
  intro m s hf tac period n t
  have hperiod : timaPeriod (s.peek addrTac) = period := timaPeriod_eq_specPeriod tac
  have hacc := timer_timaAcc m hf
  have htima := timer_peek_tima m hf
  have hif := timer_peek_if m hf
  rw [hperiod] at hacc htima hif
  split
  case isTrue hon =>
    refine ⟨hacc.trans (if_pos hon), ?_, htima.trans (if_pos hon), hif.trans (if_pos hon)⟩
    rw [hacc.trans (if_pos hon), ← hperiod]
    exact Nat.mod_lt _ (timaPeriod_pos _)
  case isFalse hoff => exact ⟨hacc.trans (if_neg hoff), htima.trans (if_neg hoff), hif.trans (if_neg hoff)⟩

/-- R412: setting the Timer's request bit changes no other. -/
theorem getLsbD_or_timer_bit (v : Byte) {j : Nat} (hj : j ≠ 2) : (v ||| 0x04).getLsbD j = v.getLsbD j := by
  rw [show (0x04 : Byte) = BitVec.twoPow 8 2 from rfl, BitVec.getLsbD_or, BitVec.getLsbD_twoPow]
  simp [Ne.symm hj]

/-- Settles O56: the addresses that `timer_peek` sets apart are DIV, TIMA and IF. -/
theorem timerTouchesOnlyItsRegisters : Obligations.TimerTouchesOnlyItsRegisters := by
  intro m s
  refine ⟨timer_frame_self m s, fun hf => ⟨fun x hdiv htima hif => ?_, fun j hj => ?_⟩⟩
  · refine ((timer_peek m hf x).trans (if_neg hdiv)).trans ?_
    split
    · exact (if_neg hif).trans (if_neg htima)
    · rfl
  · rw [show (State.timer m s).peek 0xFF0F = _ from timer_peek_if m hf]
    split
    · split
      · exact getLsbD_or_timer_bit _ hj
      · rfl
    · rfl

/-! ### The inputs of the host (R438) -/

/-- R438: every input of the host keeps the invariant. -/
theorem State.Inv.applyInput {s : State} (h : s.Inv) (x : HostInput) : (applyInput x s).Inv := by
  cases x with
  | requestInterrupt k =>
    exact h.of_controlKept ⟨rfl, rfl, rfl, rfl, rfl, rfl⟩ rfl (BusOk.read_write _ _ _ _) h.divAcc h.timaAcc
  | busRead a => exact h.of_controlKept ⟨rfl, rfl, rfl, rfl, rfl, rfl⟩ rfl (BusOk.read a) h.divAcc h.timaAcc
  | busWrite a v => exact h.of_controlKept ⟨rfl, rfl, rfl, rfl, rfl, rfl⟩ rfl (BusOk.write _ a v) h.divAcc h.timaAcc
  | wake =>
    exact { h with
      haltedAlone := fun hhalted => ⟨rfl, (h.haltedAlone hhalted).2⟩
      stoppedAlone := nofun }
  | reset p =>
    cases p <;>
      exact ⟨h.memory, h.flatStorage, Nat.zero_lt_succ _, Nat.zero_lt_succ _, nofun, nofun, nofun, nofun⟩

/-- R401, R438: every event completes and keeps the invariant. -/
theorem State.Inv.runEvent {s : State} (h : s.Inv) (ev : Event) : ∃ t, runEvent ev s = .next t ∧ t.Inv := by
  cases ev with
  | step =>
    obtain ⟨t, hstep, -⟩ := step_outcome s
    exact ⟨t, hstep, stepKeepsTheInvariant s t h hstep⟩
  | input x => exact ⟨_, rfl, h.applyInput x⟩

/-- Settles O52: by induction on the events, each of which completes and keeps the invariant. -/
theorem eventsKeepTheInvariant : Obligations.EventsKeepTheInvariant := by
  intro evs
  induction evs with
  | nil => exact fun s h => ⟨s, rfl, h⟩
  | cons ev evs ih =>
    intro s h
    obtain ⟨t, hev, ht⟩ := h.runEvent ev
    rw [runEvents, hev]
    exact ih t ht

/-- Settles O60: each input is by definition its accesses or its one update. -/
theorem hostInputsDoOnlyThis : Obligations.HostInputsDoOnlyThis := by
  intro s k a v
  have hrequest : applyInput (.requestInterrupt k) s =
      (s.afterRead addrIf).write8 addrIf (s.peek addrIf ||| byteOf (2 ^ k.bit)) := by
    rw [← bitMask_irq]
    rfl
  refine ⟨⟨hrequest, fun hf => ?_⟩, rfl, fun hs => ?_, rfl, fun hf => ?_, rfl, rfl, fun hf => ?_⟩
  · rw [hrequest]
    exact storesByte_afterRead_write8 hf addrIf addrIf _
  · exact congrArg (fun b => { s with stopped := b }) hs.symm
  · exact congrArg (fun bus => { s with mem := Bus.afterRead8 bus s.mem a }) hf
  · exact (storesByte_write8 hf a v).congr rfl rfl

end Sys2Proof.Machine

/-! PROOFS, reset (70_reset_and_hazards.md): what either profile leaves, the invariant, and the first step. -/

namespace Sys2Proof.Machine

/-- R403, R421, R416: after reset nothing keeps the core from running an instruction, under either policy. -/
theorem State.afterReset_runs (p : BootProfile) (mem : Memory) (config : Config) :
    (State.afterReset p mem config).isStuck = false ∧ (State.afterReset p mem config).halted = false ∧
      (State.afterReset p mem config).ime = false := by
  cases p <;> exact ⟨Bool.and_false _, rfl, rfl⟩

/-- R504: so the first step after reset executes an instruction. -/
theorem step_afterReset (p : BootProfile) (mem : Memory) (config : Config) :
    ∃ t n, step (State.afterReset p mem config) = .next t ∧ t.outcome = some (.executed n) := by
  obtain ⟨hs, hhalted, hime⟩ := State.afterReset_runs p mem config
  have hrun := step_eq_executeOne hs (fun h => absurd (hhalted.symm.trans h) nofun) (.inl hime)
  obtain ⟨_, u, -, -, hone⟩ := executeOne_eq (State.afterReset p mem config).checked
  obtain ⟨n, hn⟩ := executeOne_outcome hone
  exact ⟨_, n, hrun.trans hone, hn⟩

/-- R503: before anything is written, the reference bus reads as zero. -/
theorem State.peek_reset (x : Word) : State.reset.peek x = 0x00 := State.peek_of_flat rfl x

/-- Settles O59: each profile's state is by definition these values; its control state lets the first step run. -/
theorem resetValues : Obligations.ResetValues := by
  intro s
  have hfirst : ∀ p, ∃ t n, step (applyInput (.reset p) s) = .next t ∧ t.outcome = some (.executed n) :=
    fun p => step_afterReset p s.mem s.config
  exact ⟨rfl, rfl, rfl, rfl, State.peek_reset, hfirst⟩

/-- R501, R502: reset leaves the sub-counters at zero, the core running and no fault, so over a bus in order it meets
the invariant. -/
theorem State.Inv.afterReset (p : BootProfile) {mem : Memory} {config : Config} (h : BusOk config.bus mem) :
    (State.afterReset p mem config).Inv := by
  cases p <;> exact ⟨h.wf, h.flat, Nat.zero_lt_succ _, Nat.zero_lt_succ _, nofun, nofun, nofun, nofun⟩

/-- Settles O51: the empty storage of the reference bus is in order. -/
theorem resetMeetsTheInvariant : Obligations.ResetMeetsTheInvariant :=
  State.Inv.afterReset BootProfile.default ⟨rfl, fun _ => rfl⟩

end Sys2Proof.Machine
